-- ==== Sys2Proof/Word.lean ====
section
/-! DEFINITION. The word types of the hardware (spec/00_scope.md R7, R9): bytes, the 32-bit words of
U1, U2, U3 and the 64-bit words and lanes of U4, U5. All values are unsigned. -/

namespace Sys2Proof

/-- A byte is 8 bits (R7). -/
abbrev Byte := BitVec 8

/-- A word of U1, U2, U3, and a command word (R6, R49). -/
abbrev Word32 := BitVec 32

/-- A word of U4, a lane of U5, and the control registers `LEN`, `BLKIDX`, `NFULL` (R6, R21). -/
abbrev Word64 := BitVec 64

end Sys2Proof
end

