-- ==== Sys2Proof/Config.lean ====
section
/-! DEFINITION. What is fixed for one CORE, or left open by the spec: the names of the fourteen algorithm
variants (R50), of the block sources (R52) and of the five byte spaces (R28), and the one free value of
the model, the content of a message byte that the host has not written since reset (U1).
The other open parameters: `MSG_CAP` is the field `msgCap` of State (notes/assumptions/1.md), `T_CMD` is
chosen by the host's input (notes/assumptions/4.md), `BUS_BINDING` and `NUM_INSTANCES` are outside the
model (notes/assumptions/8.md). The parameter table of R51 stands in Machine/Operands.lean. -/

namespace Sys2Proof

/-- The six Merkle–Damgård variants (R14, R50: `ALG` codes 1, 2, 4, 5, 6, 7). -/
inductive MdAlg where
  | md5 | sha1 | sha224 | sha256 | sha384 | sha512
  deriving DecidableEq, Repr

/-- The eight sponge variants (R50: `ALG` codes 8 to 15). -/
inductive SpongeAlg where
  | sha3_224 | sha3_256 | sha3_384 | sha3_512
  | keccak224 | keccak256 | keccak384 | keccak512
  deriving DecidableEq, Repr

/-- The block sources of COMPRESS (R52: `BSEL` 0, 1, 2, 3). -/
inductive Src where
  | blk | msg | fb0 | fb1
  deriving DecidableEq, Repr

/-- The block sources of ABSORB (R52: `BSEL` 0, 1, 2; a sponge has one final block). -/
inductive SpongeSrc where
  | blk | msg | fb0
  deriving DecidableEq, Repr

/-- The five byte spaces (R28). -/
inductive Space where
  | msg | blk | fb0 | fb1 | dout
  deriving DecidableEq, Repr

/-- FREE VALUE (notes/assumptions/2.md). The content of `MSG[addr]` while the host has not written it since the
`epoch`-th reset: "unspecified ... a model must not assume any value" (R32, U1). It has no body, so
nothing can be proved about it, and every claim holds whatever it is. -/
opaque Config.unspecifiedMsgByte (epoch addr : Nat) : Byte

end Sys2Proof
end

