-- ==== Sys2Proof/Syntax.lean ====
section
/-! DEFINITION. The commands: one constructor for each of the 106 rows of spec/opcode_table.json (R53). A command
has no operand fields of its own: operation, algorithm and block source are all fixed by its word
(R49), so a constructor takes no argument; `LEN`, `BLKIDX` and the byte spaces are implicit operands
in State. Below it stands the naming of R55: which command a mnemonic `OP.ALGNAME src` writes. -/

namespace Sys2Proof

/-- The 106 commands. `compressSha1Fb0` is the row `COMPRESS.SHA1_FB0`, written `COMPRESS.SHA1 FB0`
in R55. -/
inductive Instr where
  -- DIGEST (14)
  | digestMd5 | digestSha1 | digestSha224 | digestSha256
  | digestSha384 | digestSha512 | digestSha3_224 | digestSha3_256
  | digestSha3_384 | digestSha3_512 | digestKeccak224 | digestKeccak256
  | digestKeccak384 | digestKeccak512
  -- INIT (14)
  | initMd5 | initSha1 | initSha224 | initSha256
  | initSha384 | initSha512 | initSha3_224 | initSha3_256
  | initSha3_384 | initSha3_512 | initKeccak224 | initKeccak256
  | initKeccak384 | initKeccak512
  -- COMPRESS (24)
  | compressMd5Blk | compressSha1Blk | compressSha224Blk | compressSha256Blk | compressSha384Blk | compressSha512Blk
  | compressMd5Msg | compressSha1Msg | compressSha224Msg | compressSha256Msg | compressSha384Msg | compressSha512Msg
  | compressMd5Fb0 | compressSha1Fb0 | compressSha224Fb0 | compressSha256Fb0 | compressSha384Fb0 | compressSha512Fb0
  | compressMd5Fb1 | compressSha1Fb1 | compressSha224Fb1 | compressSha256Fb1 | compressSha384Fb1 | compressSha512Fb1
  -- PAD (6)
  | padMd5 | padSha1 | padSha224 | padSha256
  | padSha384 | padSha512
  -- SERIALIZE (6)
  | serializeMd5 | serializeSha1 | serializeSha224 | serializeSha256
  | serializeSha384 | serializeSha512
  -- PERMUTE (1)
  | permute
  -- ABSORB (24)
  | absorbSha3_224Blk | absorbSha3_256Blk | absorbSha3_384Blk | absorbSha3_512Blk
  | absorbKeccak224Blk | absorbKeccak256Blk | absorbKeccak384Blk | absorbKeccak512Blk
  | absorbSha3_224Msg | absorbSha3_256Msg | absorbSha3_384Msg | absorbSha3_512Msg
  | absorbKeccak224Msg | absorbKeccak256Msg | absorbKeccak384Msg | absorbKeccak512Msg
  | absorbSha3_224Fb0 | absorbSha3_256Fb0 | absorbSha3_384Fb0 | absorbSha3_512Fb0
  | absorbKeccak224Fb0 | absorbKeccak256Fb0 | absorbKeccak384Fb0 | absorbKeccak512Fb0
  -- SPPAD (8)
  | sppadSha3_224 | sppadSha3_256 | sppadSha3_384 | sppadSha3_512
  | sppadKeccak224 | sppadKeccak256 | sppadKeccak384 | sppadKeccak512
  -- SQUEEZE (8)
  | squeezeSha3_224 | squeezeSha3_256 | squeezeSha3_384 | squeezeSha3_512
  | squeezeKeccak224 | squeezeKeccak256 | squeezeKeccak384 | squeezeKeccak512
  -- CLEAR (1)
  | clear
  deriving DecidableEq, Repr

/-- `DIGEST.a`, a Merkle–Damgård (R55). -/
def Instr.digestMd : MdAlg → Instr
  | .md5 => .digestMd5
  | .sha1 => .digestSha1
  | .sha224 => .digestSha224
  | .sha256 => .digestSha256
  | .sha384 => .digestSha384
  | .sha512 => .digestSha512

/-- `DIGEST.a`, a a sponge variant (R55). -/
def Instr.digestSponge : SpongeAlg → Instr
  | .sha3_224 => .digestSha3_224
  | .sha3_256 => .digestSha3_256
  | .sha3_384 => .digestSha3_384
  | .sha3_512 => .digestSha3_512
  | .keccak224 => .digestKeccak224
  | .keccak256 => .digestKeccak256
  | .keccak384 => .digestKeccak384
  | .keccak512 => .digestKeccak512

/-- `INIT.a`, a Merkle–Damgård (R55). -/
def Instr.initMd : MdAlg → Instr
  | .md5 => .initMd5
  | .sha1 => .initSha1
  | .sha224 => .initSha224
  | .sha256 => .initSha256
  | .sha384 => .initSha384
  | .sha512 => .initSha512

/-- `INIT.a`, a a sponge variant (R55). -/
def Instr.initSponge : SpongeAlg → Instr
  | .sha3_224 => .initSha3_224
  | .sha3_256 => .initSha3_256
  | .sha3_384 => .initSha3_384
  | .sha3_512 => .initSha3_512
  | .keccak224 => .initKeccak224
  | .keccak256 => .initKeccak256
  | .keccak384 => .initKeccak384
  | .keccak512 => .initKeccak512

/-- `COMPRESS.a src` (R55). -/
def Instr.compress : MdAlg → Src → Instr
  | .md5, .blk => .compressMd5Blk | .md5, .msg => .compressMd5Msg
  | .md5, .fb0 => .compressMd5Fb0 | .md5, .fb1 => .compressMd5Fb1
  | .sha1, .blk => .compressSha1Blk | .sha1, .msg => .compressSha1Msg
  | .sha1, .fb0 => .compressSha1Fb0 | .sha1, .fb1 => .compressSha1Fb1
  | .sha224, .blk => .compressSha224Blk | .sha224, .msg => .compressSha224Msg
  | .sha224, .fb0 => .compressSha224Fb0 | .sha224, .fb1 => .compressSha224Fb1
  | .sha256, .blk => .compressSha256Blk | .sha256, .msg => .compressSha256Msg
  | .sha256, .fb0 => .compressSha256Fb0 | .sha256, .fb1 => .compressSha256Fb1
  | .sha384, .blk => .compressSha384Blk | .sha384, .msg => .compressSha384Msg
  | .sha384, .fb0 => .compressSha384Fb0 | .sha384, .fb1 => .compressSha384Fb1
  | .sha512, .blk => .compressSha512Blk | .sha512, .msg => .compressSha512Msg
  | .sha512, .fb0 => .compressSha512Fb0 | .sha512, .fb1 => .compressSha512Fb1

/-- `PAD.a` (R55). -/
def Instr.pad : MdAlg → Instr
  | .md5 => .padMd5
  | .sha1 => .padSha1
  | .sha224 => .padSha224
  | .sha256 => .padSha256
  | .sha384 => .padSha384
  | .sha512 => .padSha512

/-- `SERIALIZE.a` (R55). -/
def Instr.serialize : MdAlg → Instr
  | .md5 => .serializeMd5
  | .sha1 => .serializeSha1
  | .sha224 => .serializeSha224
  | .sha256 => .serializeSha256
  | .sha384 => .serializeSha384
  | .sha512 => .serializeSha512

/-- `ABSORB.a src` (R55). -/
def Instr.absorb : SpongeAlg → SpongeSrc → Instr
  | .sha3_224, .blk => .absorbSha3_224Blk | .sha3_224, .msg => .absorbSha3_224Msg
  | .sha3_224, .fb0 => .absorbSha3_224Fb0
  | .sha3_256, .blk => .absorbSha3_256Blk | .sha3_256, .msg => .absorbSha3_256Msg
  | .sha3_256, .fb0 => .absorbSha3_256Fb0
  | .sha3_384, .blk => .absorbSha3_384Blk | .sha3_384, .msg => .absorbSha3_384Msg
  | .sha3_384, .fb0 => .absorbSha3_384Fb0
  | .sha3_512, .blk => .absorbSha3_512Blk | .sha3_512, .msg => .absorbSha3_512Msg
  | .sha3_512, .fb0 => .absorbSha3_512Fb0
  | .keccak224, .blk => .absorbKeccak224Blk | .keccak224, .msg => .absorbKeccak224Msg
  | .keccak224, .fb0 => .absorbKeccak224Fb0
  | .keccak256, .blk => .absorbKeccak256Blk | .keccak256, .msg => .absorbKeccak256Msg
  | .keccak256, .fb0 => .absorbKeccak256Fb0
  | .keccak384, .blk => .absorbKeccak384Blk | .keccak384, .msg => .absorbKeccak384Msg
  | .keccak384, .fb0 => .absorbKeccak384Fb0
  | .keccak512, .blk => .absorbKeccak512Blk | .keccak512, .msg => .absorbKeccak512Msg
  | .keccak512, .fb0 => .absorbKeccak512Fb0

/-- `SPPAD.a` (R55). -/
def Instr.sppad : SpongeAlg → Instr
  | .sha3_224 => .sppadSha3_224
  | .sha3_256 => .sppadSha3_256
  | .sha3_384 => .sppadSha3_384
  | .sha3_512 => .sppadSha3_512
  | .keccak224 => .sppadKeccak224
  | .keccak256 => .sppadKeccak256
  | .keccak384 => .sppadKeccak384
  | .keccak512 => .sppadKeccak512

/-- `SQUEEZE.a` (R55). -/
def Instr.squeeze : SpongeAlg → Instr
  | .sha3_224 => .squeezeSha3_224
  | .sha3_256 => .squeezeSha3_256
  | .sha3_384 => .squeezeSha3_384
  | .sha3_512 => .squeezeSha3_512
  | .keccak224 => .squeezeKeccak224
  | .keccak256 => .squeezeKeccak256
  | .keccak384 => .squeezeKeccak384
  | .keccak512 => .squeezeKeccak512

end Sys2Proof
end

