-- ==== Sys2Proof/WellFormed.lean ====
section
/-! DEFINITION. What is well formed. A command has no operand fields of its own, so every term of Instr is well
formed; what can be ill formed is a command WORD: R54 gives the legality predicate on its fields, one check for
each of its clauses. It is written independently of the opcode table of Decode.lean, so that the two can be
proved to agree. Beside it stands the elaboration-time check of R119 on a sponge parameter row. -/

namespace Sys2Proof

/-- The fields of a command word (R49): `OPC` 3:0, `ALG` 7:4, `BSEL` 9:8, `ZERO` 31:10. -/
structure Fields where
  opc  : BitVec 4
  alg  : BitVec 4
  bsel : BitVec 2
  zero : BitVec 22
  deriving DecidableEq, Repr

/-- The C-format of R49: which bits are which field. -/
def Fields.ofWord (w : Word32) : Fields :=
  { opc := w.extractLsb' 0 4, alg := w.extractLsb' 4 4,
    bsel := w.extractLsb' 8 2, zero := w.extractLsb' 10 22 }

/-- The operations that take an algorithm (R53): DIGEST, INIT, COMPRESS, PAD, SERIALIZE, ABSORB, SPPAD,
SQUEEZE. -/
def Fields.takesAlg (f : Fields) : Bool :=
  f.opc ∈ [0x1, 0x2, 0x3, 0x4, 0x5, 0x7, 0x8, 0x9]

/-- R54, "`ZERO` (bits 31:10) ≠ 0" is illegal. -/
def Fields.zeroOk (f : Fields) : Bool := f.zero = 0

/-- R54, "`OPC` ∈ {0x0, 0xB, 0xC, 0xD, 0xE, 0xF}" is illegal. -/
def Fields.opcOk (f : Fields) : Bool := !decide (f.opc ∈ [0x0, 0xB, 0xC, 0xD, 0xE, 0xF])

/-- R54, "`ALG` ∈ {0x0, 0x3} in DIGEST, INIT, COMPRESS, PAD, SERIALIZE, ABSORB, SPPAD or SQUEEZE" is
illegal. -/
def Fields.algOk (f : Fields) : Bool := !(f.takesAlg && decide (f.alg ∈ [0x0, 0x3]))

/-- R54, "`ALG` ≥ 8 in COMPRESS, PAD or SERIALIZE" is illegal. -/
def Fields.mdOk (f : Fields) : Bool := !(decide (f.opc ∈ [0x3, 0x4, 0x5]) && decide (8 ≤ f.alg.toNat))

/-- R54, "`ALG` < 8 in ABSORB, SPPAD or SQUEEZE" is illegal. -/
def Fields.spongeOk (f : Fields) : Bool := !(decide (f.opc ∈ [0x7, 0x8, 0x9]) && decide (f.alg.toNat < 8))

/-- R54, "`ALG` ≠ 0 in PERMUTE or CLEAR" is illegal. -/
def Fields.noAlgOk (f : Fields) : Bool := !(decide (f.opc ∈ [0x6, 0xA]) && decide (f.alg ≠ 0))

/-- R54, "`BSEL` ≠ 0 in any operation other than COMPRESS and ABSORB" is illegal. -/
def Fields.bselOk (f : Fields) : Bool := decide (f.opc ∈ [0x3, 0x7]) || decide (f.bsel = 0)

/-- R54, "`BSEL` = 3 in ABSORB" is illegal. -/
def Fields.absorbSrcOk (f : Fields) : Bool := !(decide (f.opc = 0x7) && decide (f.bsel = 3))

/-- The legality predicate of R54 on the fields of a command word. -/
def Fields.legal (f : Fields) : Bool :=
  f.zeroOk && f.opcOk && f.algOk && f.mdOk && f.spongeOk && f.noAlgOk && f.bselOk && f.absorbSrcOk

/-- `CfgOK(RATE, OUT)` of R119: the two configuration-time conditions, checked on the parameter table
when the hardware is elaborated and never at run time. -/
def cfgOk (rate out : Nat) : Bool :=
  decide (rate % 8 = 0) && decide (0 < rate) && decide (rate < 200) && decide (out ≤ 200)

/-- Every command is well formed: it has no operand fields (R49, R53). What could be ill formed is its
word, see `Fields.legal`. -/
def Instr.wf (_ : Instr) : Bool := true

end Sys2Proof
end

