-- ==== Sys2Proof/Decode.lean ====
section
/-! DEFINITION. Decoding and encoding of command words. The decoder is the exact-match lookup of R53 in the 106
words of spec/opcode_table.json (every mask there is 0xFFFFFFFF) and is total on all 2^32 values (R54); the
encoder composes a word from its fields `OPC | ALG << 4 | BSEL << 8` (R49, R50, R52, R53, R55). A command word
is the value written to `CMD` as a whole: no byte order is involved (R37, R47). -/

namespace Sys2Proof

/-- Why a word is no command: there is one reason, it is not one of the 106 legal words (R54, R184). -/
inductive DecodeError where
  | errIllegal
  deriving DecidableEq, Repr

/-- The words of DIGEST, from spec/opcode_table.json. -/
def tableDigest : List (Word32 × Instr) :=
  [(0x00000011, .digestMd5), (0x00000021, .digestSha1), (0x00000041, .digestSha224),
   (0x00000051, .digestSha256), (0x00000061, .digestSha384), (0x00000071, .digestSha512),
   (0x00000081, .digestSha3_224), (0x00000091, .digestSha3_256), (0x000000A1, .digestSha3_384),
   (0x000000B1, .digestSha3_512), (0x000000C1, .digestKeccak224), (0x000000D1, .digestKeccak256),
   (0x000000E1, .digestKeccak384), (0x000000F1, .digestKeccak512)]

/-- The words of INIT, from spec/opcode_table.json. -/
def tableInit : List (Word32 × Instr) :=
  [(0x00000012, .initMd5), (0x00000022, .initSha1), (0x00000042, .initSha224),
   (0x00000052, .initSha256), (0x00000062, .initSha384), (0x00000072, .initSha512),
   (0x00000082, .initSha3_224), (0x00000092, .initSha3_256), (0x000000A2, .initSha3_384),
   (0x000000B2, .initSha3_512), (0x000000C2, .initKeccak224), (0x000000D2, .initKeccak256),
   (0x000000E2, .initKeccak384), (0x000000F2, .initKeccak512)]

/-- The words of COMPRESS BLK, from spec/opcode_table.json. -/
def tableCompressBlk : List (Word32 × Instr) :=
  [(0x00000013, .compressMd5Blk), (0x00000023, .compressSha1Blk), (0x00000043, .compressSha224Blk),
   (0x00000053, .compressSha256Blk), (0x00000063, .compressSha384Blk), (0x00000073, .compressSha512Blk)]

/-- The words of COMPRESS MSG, from spec/opcode_table.json. -/
def tableCompressMsg : List (Word32 × Instr) :=
  [(0x00000113, .compressMd5Msg), (0x00000123, .compressSha1Msg), (0x00000143, .compressSha224Msg),
   (0x00000153, .compressSha256Msg), (0x00000163, .compressSha384Msg), (0x00000173, .compressSha512Msg)]

/-- The words of COMPRESS FB0, from spec/opcode_table.json. -/
def tableCompressFb0 : List (Word32 × Instr) :=
  [(0x00000213, .compressMd5Fb0), (0x00000223, .compressSha1Fb0), (0x00000243, .compressSha224Fb0),
   (0x00000253, .compressSha256Fb0), (0x00000263, .compressSha384Fb0), (0x00000273, .compressSha512Fb0)]

/-- The words of COMPRESS FB1, from spec/opcode_table.json. -/
def tableCompressFb1 : List (Word32 × Instr) :=
  [(0x00000313, .compressMd5Fb1), (0x00000323, .compressSha1Fb1), (0x00000343, .compressSha224Fb1),
   (0x00000353, .compressSha256Fb1), (0x00000363, .compressSha384Fb1), (0x00000373, .compressSha512Fb1)]

/-- The words of PAD, from spec/opcode_table.json. -/
def tablePad : List (Word32 × Instr) :=
  [(0x00000014, .padMd5), (0x00000024, .padSha1), (0x00000044, .padSha224),
   (0x00000054, .padSha256), (0x00000064, .padSha384), (0x00000074, .padSha512)]

/-- The words of SERIALIZE, from spec/opcode_table.json. -/
def tableSerialize : List (Word32 × Instr) :=
  [(0x00000015, .serializeMd5), (0x00000025, .serializeSha1), (0x00000045, .serializeSha224),
   (0x00000055, .serializeSha256), (0x00000065, .serializeSha384), (0x00000075, .serializeSha512)]

/-- The words of PERMUTE, from spec/opcode_table.json. -/
def tablePermute : List (Word32 × Instr) :=
  [(0x00000006, .permute)]

/-- The words of ABSORB BLK, from spec/opcode_table.json. -/
def tableAbsorbBlk : List (Word32 × Instr) :=
  [(0x00000087, .absorbSha3_224Blk), (0x00000097, .absorbSha3_256Blk), (0x000000A7, .absorbSha3_384Blk),
   (0x000000B7, .absorbSha3_512Blk), (0x000000C7, .absorbKeccak224Blk), (0x000000D7, .absorbKeccak256Blk),
   (0x000000E7, .absorbKeccak384Blk), (0x000000F7, .absorbKeccak512Blk)]

/-- The words of ABSORB MSG, from spec/opcode_table.json. -/
def tableAbsorbMsg : List (Word32 × Instr) :=
  [(0x00000187, .absorbSha3_224Msg), (0x00000197, .absorbSha3_256Msg), (0x000001A7, .absorbSha3_384Msg),
   (0x000001B7, .absorbSha3_512Msg), (0x000001C7, .absorbKeccak224Msg), (0x000001D7, .absorbKeccak256Msg),
   (0x000001E7, .absorbKeccak384Msg), (0x000001F7, .absorbKeccak512Msg)]

/-- The words of ABSORB FB0, from spec/opcode_table.json. -/
def tableAbsorbFb0 : List (Word32 × Instr) :=
  [(0x00000287, .absorbSha3_224Fb0), (0x00000297, .absorbSha3_256Fb0), (0x000002A7, .absorbSha3_384Fb0),
   (0x000002B7, .absorbSha3_512Fb0), (0x000002C7, .absorbKeccak224Fb0), (0x000002D7, .absorbKeccak256Fb0),
   (0x000002E7, .absorbKeccak384Fb0), (0x000002F7, .absorbKeccak512Fb0)]

/-- The words of SPPAD, from spec/opcode_table.json. -/
def tableSppad : List (Word32 × Instr) :=
  [(0x00000088, .sppadSha3_224), (0x00000098, .sppadSha3_256), (0x000000A8, .sppadSha3_384),
   (0x000000B8, .sppadSha3_512), (0x000000C8, .sppadKeccak224), (0x000000D8, .sppadKeccak256),
   (0x000000E8, .sppadKeccak384), (0x000000F8, .sppadKeccak512)]

/-- The words of SQUEEZE, from spec/opcode_table.json. -/
def tableSqueeze : List (Word32 × Instr) :=
  [(0x00000089, .squeezeSha3_224), (0x00000099, .squeezeSha3_256), (0x000000A9, .squeezeSha3_384),
   (0x000000B9, .squeezeSha3_512), (0x000000C9, .squeezeKeccak224), (0x000000D9, .squeezeKeccak256),
   (0x000000E9, .squeezeKeccak384), (0x000000F9, .squeezeKeccak512)]

/-- The words of CLEAR, from spec/opcode_table.json. -/
def tableClear : List (Word32 × Instr) :=
  [(0x0000000A, .clear)]

/-- The opcode table: every legal command word with its command (R53). -/
def opcodeTable : List (Word32 × Instr) :=
  tableDigest ++ tableInit ++ tableCompressBlk ++ tableCompressMsg ++ tableCompressFb0 ++
  tableCompressFb1 ++ tablePad ++ tableSerialize ++ tablePermute ++
  tableAbsorbBlk ++ tableAbsorbMsg ++ tableAbsorbFb0 ++ tableSppad ++ tableSqueeze ++ tableClear

/-- The decoder: an exact-match lookup, total on all 2^32 values (R53, R54). -/
def decode (w : Word32) : Except DecodeError Instr :=
  match opcodeTable.find? (fun row => row.1 == w) with
  | some row => .ok row.2
  | none => .error .errIllegal

/-- The command word `OPC | ALG << 4 | BSEL << 8` (R49). -/
def commandWord (opc alg : BitVec 4) (bsel : BitVec 2) : Word32 :=
  opc.setWidth 32 ||| alg.setWidth 32 <<< 4 ||| bsel.setWidth 32 <<< 8

/-- The `ALG` code of a Merkle–Damgård variant (R50). -/
def mdCode : MdAlg → BitVec 4
  | .md5 => 0x1 | .sha1 => 0x2 | .sha224 => 0x4 | .sha256 => 0x5 | .sha384 => 0x6 | .sha512 => 0x7

/-- The `ALG` code of a sponge variant (R50): bit 3 set, bit 2 the legacy domain, bits 1:0 the size. -/
def spongeCode : SpongeAlg → BitVec 4
  | .sha3_224 => 0x8 | .sha3_256 => 0x9 | .sha3_384 => 0xA | .sha3_512 => 0xB
  | .keccak224 => 0xC | .keccak256 => 0xD | .keccak384 => 0xE | .keccak512 => 0xF

/-- The `BSEL` code of a block source (R52). -/
def srcCode : Src → BitVec 2
  | .blk => 0 | .msg => 1 | .fb0 => 2 | .fb1 => 3

/-- The encoder: the word of each command, from the field tables R50, R52 and R53. -/
def encode : Instr → Word32
  | .digestMd5 => commandWord 0x1 (mdCode .md5) 0
  | .digestSha1 => commandWord 0x1 (mdCode .sha1) 0
  | .digestSha224 => commandWord 0x1 (mdCode .sha224) 0
  | .digestSha256 => commandWord 0x1 (mdCode .sha256) 0
  | .digestSha384 => commandWord 0x1 (mdCode .sha384) 0
  | .digestSha512 => commandWord 0x1 (mdCode .sha512) 0
  | .digestSha3_224 => commandWord 0x1 (spongeCode .sha3_224) 0
  | .digestSha3_256 => commandWord 0x1 (spongeCode .sha3_256) 0
  | .digestSha3_384 => commandWord 0x1 (spongeCode .sha3_384) 0
  | .digestSha3_512 => commandWord 0x1 (spongeCode .sha3_512) 0
  | .digestKeccak224 => commandWord 0x1 (spongeCode .keccak224) 0
  | .digestKeccak256 => commandWord 0x1 (spongeCode .keccak256) 0
  | .digestKeccak384 => commandWord 0x1 (spongeCode .keccak384) 0
  | .digestKeccak512 => commandWord 0x1 (spongeCode .keccak512) 0
  | .initMd5 => commandWord 0x2 (mdCode .md5) 0
  | .initSha1 => commandWord 0x2 (mdCode .sha1) 0
  | .initSha224 => commandWord 0x2 (mdCode .sha224) 0
  | .initSha256 => commandWord 0x2 (mdCode .sha256) 0
  | .initSha384 => commandWord 0x2 (mdCode .sha384) 0
  | .initSha512 => commandWord 0x2 (mdCode .sha512) 0
  | .initSha3_224 => commandWord 0x2 (spongeCode .sha3_224) 0
  | .initSha3_256 => commandWord 0x2 (spongeCode .sha3_256) 0
  | .initSha3_384 => commandWord 0x2 (spongeCode .sha3_384) 0
  | .initSha3_512 => commandWord 0x2 (spongeCode .sha3_512) 0
  | .initKeccak224 => commandWord 0x2 (spongeCode .keccak224) 0
  | .initKeccak256 => commandWord 0x2 (spongeCode .keccak256) 0
  | .initKeccak384 => commandWord 0x2 (spongeCode .keccak384) 0
  | .initKeccak512 => commandWord 0x2 (spongeCode .keccak512) 0
  | .compressMd5Blk => commandWord 0x3 (mdCode .md5) (srcCode .blk)
  | .compressSha1Blk => commandWord 0x3 (mdCode .sha1) (srcCode .blk)
  | .compressSha224Blk => commandWord 0x3 (mdCode .sha224) (srcCode .blk)
  | .compressSha256Blk => commandWord 0x3 (mdCode .sha256) (srcCode .blk)
  | .compressSha384Blk => commandWord 0x3 (mdCode .sha384) (srcCode .blk)
  | .compressSha512Blk => commandWord 0x3 (mdCode .sha512) (srcCode .blk)
  | .compressMd5Msg => commandWord 0x3 (mdCode .md5) (srcCode .msg)
  | .compressSha1Msg => commandWord 0x3 (mdCode .sha1) (srcCode .msg)
  | .compressSha224Msg => commandWord 0x3 (mdCode .sha224) (srcCode .msg)
  | .compressSha256Msg => commandWord 0x3 (mdCode .sha256) (srcCode .msg)
  | .compressSha384Msg => commandWord 0x3 (mdCode .sha384) (srcCode .msg)
  | .compressSha512Msg => commandWord 0x3 (mdCode .sha512) (srcCode .msg)
  | .compressMd5Fb0 => commandWord 0x3 (mdCode .md5) (srcCode .fb0)
  | .compressSha1Fb0 => commandWord 0x3 (mdCode .sha1) (srcCode .fb0)
  | .compressSha224Fb0 => commandWord 0x3 (mdCode .sha224) (srcCode .fb0)
  | .compressSha256Fb0 => commandWord 0x3 (mdCode .sha256) (srcCode .fb0)
  | .compressSha384Fb0 => commandWord 0x3 (mdCode .sha384) (srcCode .fb0)
  | .compressSha512Fb0 => commandWord 0x3 (mdCode .sha512) (srcCode .fb0)
  | .compressMd5Fb1 => commandWord 0x3 (mdCode .md5) (srcCode .fb1)
  | .compressSha1Fb1 => commandWord 0x3 (mdCode .sha1) (srcCode .fb1)
  | .compressSha224Fb1 => commandWord 0x3 (mdCode .sha224) (srcCode .fb1)
  | .compressSha256Fb1 => commandWord 0x3 (mdCode .sha256) (srcCode .fb1)
  | .compressSha384Fb1 => commandWord 0x3 (mdCode .sha384) (srcCode .fb1)
  | .compressSha512Fb1 => commandWord 0x3 (mdCode .sha512) (srcCode .fb1)
  | .padMd5 => commandWord 0x4 (mdCode .md5) 0
  | .padSha1 => commandWord 0x4 (mdCode .sha1) 0
  | .padSha224 => commandWord 0x4 (mdCode .sha224) 0
  | .padSha256 => commandWord 0x4 (mdCode .sha256) 0
  | .padSha384 => commandWord 0x4 (mdCode .sha384) 0
  | .padSha512 => commandWord 0x4 (mdCode .sha512) 0
  | .serializeMd5 => commandWord 0x5 (mdCode .md5) 0
  | .serializeSha1 => commandWord 0x5 (mdCode .sha1) 0
  | .serializeSha224 => commandWord 0x5 (mdCode .sha224) 0
  | .serializeSha256 => commandWord 0x5 (mdCode .sha256) 0
  | .serializeSha384 => commandWord 0x5 (mdCode .sha384) 0
  | .serializeSha512 => commandWord 0x5 (mdCode .sha512) 0
  | .permute => commandWord 0x6 0 0
  | .absorbSha3_224Blk => commandWord 0x7 (spongeCode .sha3_224) (srcCode .blk)
  | .absorbSha3_256Blk => commandWord 0x7 (spongeCode .sha3_256) (srcCode .blk)
  | .absorbSha3_384Blk => commandWord 0x7 (spongeCode .sha3_384) (srcCode .blk)
  | .absorbSha3_512Blk => commandWord 0x7 (spongeCode .sha3_512) (srcCode .blk)
  | .absorbKeccak224Blk => commandWord 0x7 (spongeCode .keccak224) (srcCode .blk)
  | .absorbKeccak256Blk => commandWord 0x7 (spongeCode .keccak256) (srcCode .blk)
  | .absorbKeccak384Blk => commandWord 0x7 (spongeCode .keccak384) (srcCode .blk)
  | .absorbKeccak512Blk => commandWord 0x7 (spongeCode .keccak512) (srcCode .blk)
  | .absorbSha3_224Msg => commandWord 0x7 (spongeCode .sha3_224) (srcCode .msg)
  | .absorbSha3_256Msg => commandWord 0x7 (spongeCode .sha3_256) (srcCode .msg)
  | .absorbSha3_384Msg => commandWord 0x7 (spongeCode .sha3_384) (srcCode .msg)
  | .absorbSha3_512Msg => commandWord 0x7 (spongeCode .sha3_512) (srcCode .msg)
  | .absorbKeccak224Msg => commandWord 0x7 (spongeCode .keccak224) (srcCode .msg)
  | .absorbKeccak256Msg => commandWord 0x7 (spongeCode .keccak256) (srcCode .msg)
  | .absorbKeccak384Msg => commandWord 0x7 (spongeCode .keccak384) (srcCode .msg)
  | .absorbKeccak512Msg => commandWord 0x7 (spongeCode .keccak512) (srcCode .msg)
  | .absorbSha3_224Fb0 => commandWord 0x7 (spongeCode .sha3_224) (srcCode .fb0)
  | .absorbSha3_256Fb0 => commandWord 0x7 (spongeCode .sha3_256) (srcCode .fb0)
  | .absorbSha3_384Fb0 => commandWord 0x7 (spongeCode .sha3_384) (srcCode .fb0)
  | .absorbSha3_512Fb0 => commandWord 0x7 (spongeCode .sha3_512) (srcCode .fb0)
  | .absorbKeccak224Fb0 => commandWord 0x7 (spongeCode .keccak224) (srcCode .fb0)
  | .absorbKeccak256Fb0 => commandWord 0x7 (spongeCode .keccak256) (srcCode .fb0)
  | .absorbKeccak384Fb0 => commandWord 0x7 (spongeCode .keccak384) (srcCode .fb0)
  | .absorbKeccak512Fb0 => commandWord 0x7 (spongeCode .keccak512) (srcCode .fb0)
  | .sppadSha3_224 => commandWord 0x8 (spongeCode .sha3_224) 0
  | .sppadSha3_256 => commandWord 0x8 (spongeCode .sha3_256) 0
  | .sppadSha3_384 => commandWord 0x8 (spongeCode .sha3_384) 0
  | .sppadSha3_512 => commandWord 0x8 (spongeCode .sha3_512) 0
  | .sppadKeccak224 => commandWord 0x8 (spongeCode .keccak224) 0
  | .sppadKeccak256 => commandWord 0x8 (spongeCode .keccak256) 0
  | .sppadKeccak384 => commandWord 0x8 (spongeCode .keccak384) 0
  | .sppadKeccak512 => commandWord 0x8 (spongeCode .keccak512) 0
  | .squeezeSha3_224 => commandWord 0x9 (spongeCode .sha3_224) 0
  | .squeezeSha3_256 => commandWord 0x9 (spongeCode .sha3_256) 0
  | .squeezeSha3_384 => commandWord 0x9 (spongeCode .sha3_384) 0
  | .squeezeSha3_512 => commandWord 0x9 (spongeCode .sha3_512) 0
  | .squeezeKeccak224 => commandWord 0x9 (spongeCode .keccak224) 0
  | .squeezeKeccak256 => commandWord 0x9 (spongeCode .keccak256) 0
  | .squeezeKeccak384 => commandWord 0x9 (spongeCode .keccak384) 0
  | .squeezeKeccak512 => commandWord 0x9 (spongeCode .keccak512) 0
  | .clear => commandWord 0xA 0 0

/-- The command the decoder reads from an instruction whose `nbits` bits are `w`, for the host's check: a
command is exactly one 32-bit word (R49), so a value that needs more bits is none. -/
def decodeTableWord (nbits w : Nat) : Option Instr :=
  if nbits ≤ 32 ∧ w < 2 ^ 32 then (decode (BitVec.ofNat 32 w)).toOption else none

end Sys2Proof
end

