-- ==== Sys2Proof/Machine/Bytes.lean ====
section
/-! DEFINITION. Byte sequences, byte order, and the rotates and shifts (R7, R8, R10, R33 to R36). A byte
sequence is a list, its index 0 first. -/

namespace Sys2Proof.Machine

/-- `rotl_W(a, n)`, 0 ≤ n < W (R10). -/
def rotl {w : Nat} (a : BitVec w) (n : Nat) : BitVec w := (a <<< n) ||| (a >>> (w - n))

/-- `rotr_W(a, n)` = `rotl_W(a, (W − n) mod W)` (R10). -/
def rotr {w : Nat} (a : BitVec w) (n : Nat) : BitVec w := rotl a ((w - n) % w)

/-- `shr_W(a, n)`: zeros shifted in at the top (R10). -/
def shr {w : Nat} (a : BitVec w) (n : Nat) : BitVec w := a >>> n

/-- The sequence read as a little-endian number: Σ s[k]·2^(8k) (R8). -/
def leNat : List Byte → Nat
  | [] => 0
  | b :: s => b.toNat + 256 * leNat s

/-- The sequence read as a big-endian number: Σ s[k]·2^(8(n−1−k)) (R8). -/
def beNat (s : List Byte) : Nat := leNat s.reverse

/-- `to_le(v, n)`: the n-byte sequence whose little-endian reading is `v` (R8). -/
def toLe (v : Nat) : Nat → List Byte
  | 0 => []
  | n + 1 => BitVec.ofNat 8 v :: toLe (v / 256) n

/-- `to_be(v, n)`: the n-byte sequence whose big-endian reading is `v` (R8). -/
def toBe (v n : Nat) : List Byte := (toLe v n).reverse

/-- `s[i .. i+n)` (R7). -/
def slice (s : List Byte) (i n : Nat) : List Byte := (s.drop i).take n

/-- `zeros(n)` (R7). -/
def zeros (n : Nat) : List Byte := List.replicate n 0

/-- The 16 little-endian 32-bit words of a block (R33, U1). -/
def wordsLe32 (B : List Byte) : List Word32 :=
  (List.range 16).map fun j => BitVec.ofNat 32 (leNat (slice B (4 * j) 4))

/-- The 16 big-endian 32-bit words of a block (R33, U2 and U3). -/
def wordsBe32 (B : List Byte) : List Word32 :=
  (List.range 16).map fun j => BitVec.ofNat 32 (beNat (slice B (4 * j) 4))

/-- The 16 big-endian 64-bit words of a block (R33, U4). -/
def wordsBe64 (B : List Byte) : List Word64 :=
  (List.range 16).map fun j => BitVec.ofNat 64 (beNat (slice B (8 * j) 8))

/-- Lane i of a sponge block: `le64(B[8i .. 8i+8))` (R34). -/
def laneLe64 (B : List Byte) (i : Nat) : Word64 := BitVec.ofNat 64 (leNat (slice B (8 * i) 8))

/-- `MemWrite(space, 0, N, s ++ zeros(N − |s|))`: a whole space written, zero beyond the sequence (R28,
R39). -/
def fillSpace (n : Nat) (s : List Byte) : Vector Byte n := Vector.ofFn fun i => s.getD i.val 0

end Sys2Proof.Machine
end

