-- ==== Sys2Proof/Machine/State.lean ====
section
/-! DEFINITION. The state of one CORE instance as plain data: everything R16 lists (the five engine register
files of R17, the control and status registers of R21, the five byte spaces of R28), the command in progress
while `BUSY` = 1 (R23, R200), and four fields of the model's own: the parameter `MSG_CAP`, the counter of the
free value, the inputs still to come from outside, and what the last host read returned. -/

namespace Sys2Proof.Machine

/-- The three causes of a rejection (R184). `CODE` is 1, 2, 3 in this order; 0, no rejection, is the
absence of a cause. -/
inductive RejectCode where
  | illegal | len | range
  deriving DecidableEq, Repr

/-- The message space: the bytes written since the last reset, by index. Strictly rising indexes; an unlisted
byte has no written value, so no entry equals what an unlisted index looks up as
(notes/assumptions/2.md). -/
abbrev Memory := List Host.Cell

/-- The inputs from outside the CORE: the statements of a host program (R56), reset (R198), and the end of a
busy interval (R206). -/
inductive HostOp where
  /-- `WR reg, v` (R56). `v` is of the register's width, so a value of a 32-bit register is below 2^32.
  `WR CMD, w` issues `w` (R22). -/
  | wr (reg : Nat) (v : Word64)
  /-- `RD reg` (R56). -/
  | rd (reg : Nat)
  /-- `WRB space[i], b0 b1 ...` (R56). -/
  | wrb (space : Space) (i : Nat) (bytes : List Byte)
  /-- `RDB space[i..j)` (R56). -/
  | rdb (space : Space) (i j : Nat)
  /-- `ISSUE w`, its busy interval empty: the command is one transition (R42, R200). -/
  | issue (w : Word32)
  /-- `ISSUE w`, its busy interval not empty: `BUSY` stays 1 after this step until `T_CMD` has passed
  (R188, R206; notes/assumptions/4.md). -/
  | issueLong (w : Word32)
  /-- `WAIT`: the host reads `STATUS` until `BUSY` = 0 (R56). -/
  | wait
  /-- `T_CMD` has passed: the busy interval ends (R206). -/
  | busyEnds
  /-- Reset, applied from outside (R198). -/
  | reset
  deriving DecidableEq, Repr

/-- What the last host read returned (R56). -/
inductive HostData where
  /-- The host has read nothing. -/
  | nothing
  /-- The value of a register, zero-extended to 64 bits (R7, R37). -/
  | reg (v : Word64)
  /-- The bytes of an `RDB`. -/
  | bytes (bs : List Byte)
  deriving DecidableEq, Repr

/-- The registers by name (R17, R21). The register number is only how the host names one. -/
inductive RegName where
  | cmd | status | len | blkidx | nfull | padst | dlen
  | md5 (i : Fin 4) | sha1 (i : Fin 5) | s32 (i : Fin 8) | s64 (i : Fin 8) | kec (i : Fin 25)
  deriving DecidableEq, Repr

/-- Why the machine stops with a fault. No command does (R13): both are host accesses that "the interface
of this spec" cannot express (R28, U16). -/
inductive Fault where
  /-- Raised by `WRB` and `RDB` when an index lies at or beyond the size of the space (R28, U16;
  notes/assumptions/6.md). Safe: the model stops where a bus binding would decide. -/
  | noSuchByte (space : Space) (index : Nat)
  /-- Raised by `WR` of a value that does not fit a 32-bit register (R56, U16; notes/assumptions/6.md). Safe:
  the model stops where a bus binding would decide. -/
  | valueTooWide (reg : Nat)
  deriving DecidableEq, Repr

/-- Why a step is refused. -/
inductive Refusal where
  /-- The instruction has no meaning in the model yet. No arm of `exec` answers this. Safe. -/
  | notModelled (mnemonic : String)
  /-- Raised by every host access but a read of `STATUS`, a `CMD` write among them, while `BUSY` = 1: "this spec
  defines no result for it and a model must refuse it" (R200, U3; notes/assumptions/5.md). Safe. -/
  | accessWhileBusy
  deriving DecidableEq, Repr

/-- The state of one CORE instance (R16). Plain data; INVENTORY.md lists each field with its rule. -/
structure State where
  /-- `MSG_CAP`, the open parameter of R6: 0 ≤ MSG_CAP < 2^61. No step changes it
  (notes/assumptions/1.md). -/
  msgCap   : Fin (2 ^ 61)
  /-- `MD5.H[0..3]` (R17). -/
  md5      : Vector Word32 4
  /-- `SHA1.H[0..4]` (R17). -/
  sha1     : Vector Word32 5
  /-- `S32.H[0..7]` (R17), shared by SHA-224 and SHA-256. -/
  s32      : Vector Word32 8
  /-- `S64.H[0..7]` (R17), shared by SHA-384 and SHA-512. -/
  s64      : Vector Word64 8
  /-- `KEC.A[0..24]` (R17), shared by the eight sponge variants. -/
  kec      : Vector Word64 25
  /-- The command in progress: `BUSY` is 1 iff there is one (R23; notes/assumptions/9.md). -/
  running  : Option Instr
  /-- `STATUS.DONE` (R23). -/
  done     : Bool
  /-- `STATUS.ERR` and `STATUS.CODE`: `ERR` is 1 iff there is a code, and the code is that of the first
  rejection since reset or CLEAR (R23; notes/assumptions/9.md). -/
  rejected : Option RejectCode
  /-- `LEN` (R24). -/
  len      : Word64
  /-- `BLKIDX` (R25). -/
  blkidx   : Word64
  /-- `NFULL` (R26). -/
  nfull    : Word64
  /-- `PADST.REM` (R26). -/
  rem      : BitVec 8
  /-- `PADST.NEED2` (R26). -/
  need2    : Bool
  /-- `DLEN` (R27). -/
  dlen     : BitVec 8
  /-- `MSG` (R28): the bytes written since reset. -/
  msg      : Memory
  /-- `BLK` (R28). -/
  blk      : Vector Byte 144
  /-- `FB0` (R28). -/
  fb0      : Vector Byte 144
  /-- `FB1` (R28). -/
  fb1      : Vector Byte 128
  /-- `DOUT` (R28). -/
  dout     : Vector Byte 64
  /-- The model's own: the number of resets so far, which the free value of an unwritten `MSG` byte is
  applied to (notes/assumptions/2.md). -/
  msgEpoch : Nat
  /-- The model's own: the inputs still to come, the oldest first (notes/assumptions/3.md). -/
  host     : List HostOp
  /-- The model's own: what the last host read returned (notes/assumptions/7.md). -/
  readOut  : HostData
  deriving DecidableEq, Repr

/-- The machine right after reset (R32, R198): every register and every byte of `BLK`, `FB0`, `FB1`, `DOUT` is
zero, no command runs, no rejection is recorded, and nothing of `MSG` is known. The four fields of the
model's own have the values that notes/assumptions/1.md, 2.md, 3.md and 7.md name. -/
def State.reset : State :=
  { msgCap := ⟨4096, by decide⟩
    md5 := Vector.replicate 4 0, sha1 := Vector.replicate 5 0, s32 := Vector.replicate 8 0
    s64 := Vector.replicate 8 0, kec := Vector.replicate 25 0
    running := none, done := false, rejected := none
    len := 0, blkidx := 0, nfull := 0, rem := 0, need2 := false, dlen := 0
    msg := [], blk := Vector.replicate 144 0, fb0 := Vector.replicate 144 0
    fb1 := Vector.replicate 128 0, dout := Vector.replicate 64 0
    msgEpoch := 0, host := [], readOut := .nothing }

end Sys2Proof.Machine
end

