-- ==== Sys2Proof/Machine/Flags.lean ====
section
/-! DEFINITION. The flags and the status registers as the host reads them (R20, R21, R23, R26, R27). There are no
arithmetic condition codes (R20): the flags are BUSY, DONE, ERR and NEED2. -/

namespace Sys2Proof.Machine

/-- `STATUS.BUSY`: 1 from acceptance of a command to its completion (R23). -/
def State.busy (s : State) : Bool := s.running.isSome

/-- `STATUS.ERR`: 1 iff some command has been rejected since the last reset or CLEAR (R23). -/
def State.err (s : State) : Bool := s.rejected.isSome

/-- The number of a rejection cause in `STATUS.CODE` (R184). -/
def codeNumber : RejectCode → Word32
  | .illegal => 1 | .len => 2 | .range => 3

/-- `STATUS.CODE`: the code of the first rejection, 0 when `ERR` = 0 (R23). -/
def State.code (s : State) : Word32 :=
  match s.rejected with
  | none => 0
  | some c => codeNumber c

/-- A flag at bit `k` of a 32-bit register. -/
def flagBit (b : Bool) (k : Nat) : Word32 := if b then 1 <<< k else 0

/-- The value of `STATUS`: `BUSY`[0], `DONE`[1], `ERR`[2], bit 3 = 0, `CODE`[7:4], bits 31:8 = 0 (R21). -/
def statusWord (s : State) : Word32 :=
  flagBit s.busy 0 ||| flagBit s.done 1 ||| flagBit s.err 2 ||| s.code <<< 4

/-- The value of `PADST`: `REM`[7:0], `NEED2`[8], bits 31:9 = 0 (R21). -/
def padstWord (s : State) : Word32 := s.rem.setWidth 32 ||| flagBit s.need2 8

/-- The value of `DLEN`: `DLEN`[7:0], bits 31:8 = 0 (R21). -/
def dlenWord (s : State) : Word32 := s.dlen.setWidth 32

/-- A command completes: `STATUS.DONE` ← 1 (R188). `ERR` is 0 then: the command was accepted (R190). -/
def complete (s : State) : State := { s with done := true }

end Sys2Proof.Machine
end

