-- ==== Sys2Proof/Machine/Ops.lean ====
section
/-! DEFINITION. The named operations every meaning is written over: the message memory, the byte spaces and the
registers as the host reaches them, whole-space stores, and the one exception of this hardware, the rejection of
a command, with its accept check (R184 to R192). -/

namespace Sys2Proof.Machine

/-! ## The message memory (R28; notes/assumptions/2.md) -/

/-- What index `a` of the memory looks up as: the byte the host wrote there since reset, or no value. -/
def Memory.lookup : Memory → Nat → Option Byte
  | [], _ => none
  | (k, b) :: m, a => if k = a then some b else Memory.lookup m a

/-- Writes one byte and keeps the indexes strictly rising. -/
def Memory.write : Memory → Nat → Byte → Memory
  | [], a, v => [(a, v)]
  | (k, b) :: m, a, v =>
    if a < k then (a, v) :: (k, b) :: m
    else if a = k then (a, v) :: m
    else (k, b) :: Memory.write m a v

/-- The canonical form of a message memory of `cap` bytes: indexes strictly rising and inside the space. -/
abbrev Memory.wf (cap : Nat) (m : Memory) : Prop :=
  m.Pairwise (fun p q => p.1 < q.1) ∧ ∀ p ∈ m, p.1 < cap

/-- `MSG[a]`: the byte written since reset, else the free value of an unwritten byte (R32, U1). -/
def msgByte (s : State) (a : Nat) : Byte :=
  match Memory.lookup s.msg a with
  | some b => b
  | none => Config.unspecifiedMsgByte s.msgEpoch a

/-- `MemRead(MSG, a, n)` (R8). -/
def msgRead (s : State) (a n : Nat) : List Byte := (List.range n).map fun k => msgByte s (a + k)

/-! ## The byte spaces (R28) -/

/-- The size of a byte space (R28). -/
def spaceSize (s : State) : Space → Nat
  | .msg => s.msgCap.val | .blk => 144 | .fb0 => 144 | .fb1 => 128 | .dout => 64

/-- The byte at an index of a space (R28); an index beyond the size reads 0 here and is stopped before
(`hostReadBytes`). -/
def byteAt (s : State) : Space → Nat → Byte
  | .msg, i => msgByte s i
  | .blk, i => s.blk.toList.getD i 0
  | .fb0, i => s.fb0.toList.getD i 0
  | .fb1, i => s.fb1.toList.getD i 0
  | .dout, i => s.dout.toList.getD i 0

/-- A host write of one byte: `MSG` and `BLK` are writable, a write to `FB0`, `FB1` or `DOUT` is ignored
(R28). -/
def writeByte (s : State) : Space → Nat → Byte → State
  | .msg, i, b => { s with msg := Memory.write s.msg i b }
  | .blk, i, b => { s with blk := s.blk.setIfInBounds i b }
  | .fb0, _, _ => s
  | .fb1, _, _ => s
  | .dout, _, _ => s

/-- A host write of bytes to `space[i]`, `space[i+1]`, ... (R56). -/
def writeBytes (sp : Space) : State → Nat → List Byte → State
  | s, _, [] => s
  | s, i, b :: bs => writeBytes sp (writeByte s sp i b) (i + 1) bs

/-! ## The registers by number (R17, R21) -/

/-- The register a number names (R17, R21); unassigned numbers name none. -/
def regOfNumber (n : Nat) : Option RegName :=
  if n = 0x00 then some .cmd
  else if n = 0x01 then some .status
  else if n = 0x02 then some .len
  else if n = 0x03 then some .blkidx
  else if n = 0x04 then some .nfull
  else if n = 0x05 then some .padst
  else if n = 0x06 then some .dlen
  else if h : n - 0x10 < 4 ∧ 0x10 ≤ n then some (.md5 ⟨n - 0x10, h.1⟩)
  else if h : n - 0x18 < 5 ∧ 0x18 ≤ n then some (.sha1 ⟨n - 0x18, h.1⟩)
  else if h : n - 0x20 < 8 ∧ 0x20 ≤ n then some (.s32 ⟨n - 0x20, h.1⟩)
  else if h : n - 0x30 < 8 ∧ 0x30 ≤ n then some (.s64 ⟨n - 0x30, h.1⟩)
  else if h : n - 0x40 < 25 ∧ 0x40 ≤ n then some (.kec ⟨n - 0x40, h.1⟩)
  else none

/-- The width of a register (R17, R21). -/
def regWidth : RegName → Nat
  | .cmd => 32 | .status => 32 | .padst => 32 | .dlen => 32
  | .len => 64 | .blkidx => 64 | .nfull => 64
  | .md5 _ => 32 | .sha1 _ => 32 | .s32 _ => 32 | .s64 _ => 64 | .kec _ => 64

/-- What a host read of a register returns, zero-extended (R17, R21): `CMD` is write-only and reads 0. -/
def readReg (s : State) : RegName → Word64
  | .cmd => 0
  | .status => (statusWord s).setWidth 64
  | .len => s.len
  | .blkidx => s.blkidx
  | .nfull => s.nfull
  | .padst => (padstWord s).setWidth 64
  | .dlen => (dlenWord s).setWidth 64
  | .md5 i => s.md5[i].setWidth 64
  | .sha1 i => s.sha1[i].setWidth 64
  | .s32 i => s.s32[i].setWidth 64
  | .s64 i => s.s64[i]
  | .kec i => s.kec[i]

/-- A read by register number: an unassigned number reads 0 (R21). -/
def readNumber (s : State) (n : Nat) : Word64 :=
  match regOfNumber n with
  | some r => readReg s r
  | none => 0

/-- A host write of a register's whole value (R17, R21): a write to a read-only register is ignored. `CMD` stores
nothing (R22); issuing the command is `issue`. -/
def writeReg (s : State) (r : RegName) (v : Word64) : State :=
  match r with
  | .cmd => s
  | .status => s
  | .len => { s with len := v }
  | .blkidx => { s with blkidx := v }
  | .nfull => s
  | .padst => s
  | .dlen => s
  | .md5 i => { s with md5 := s.md5.set i (v.setWidth 32) }
  | .sha1 i => { s with sha1 := s.sha1.set i (v.setWidth 32) }
  | .s32 i => { s with s32 := s.s32.set i (v.setWidth 32) }
  | .s64 i => { s with s64 := s.s64.set i v }
  | .kec i => { s with kec := s.kec.set i v }

/-! ## What the commands store (R39) -/

/-- Delivers a digest or a serialization: `DOUT[0..OUTLEN)` is `d`, the rest of `DOUT` is zero, and
`DLEN` ← OUTLEN (R27, R35). -/
def putDigest (d : List Byte) (outlen : Nat) (s : State) : State :=
  { s with dout := fillSpace 64 d, dlen := BitVec.ofNat 8 outlen }

/-- Delivers the padder's results: `NFULL`, `PADST`, `FB0` and `FB1`, the spaces zero beyond the blocks
(R26, R60, R129). -/
def putPad (nfull rem : Nat) (need2 : Bool) (fb0 fb1 : List Byte) (s : State) : State :=
  { s with nfull := BitVec.ofNat 64 nfull, rem := BitVec.ofNat 8 rem, need2 := need2
           fb0 := fillSpace 144 fb0, fb1 := fillSpace 128 fb1 }

/-- Zeroes what the padder delivered: `FB0`, `FB1`, `NFULL`, `PADST` (the last lines of R163 and R165). -/
def zeroPad (s : State) : State :=
  { s with nfull := 0, rem := 0, need2 := false
           fb0 := Vector.replicate 144 0, fb1 := Vector.replicate 128 0 }

/-! ## Acceptance and rejection (R188 to R192) -/

/-- `Reject(code)`, the exception entry: `ERR` ← 1, `CODE` ← code, `DONE` ← 0, nothing else changes (R189). -/
def reject (c : RejectCode) (s : State) : State := { s with rejected := some c, done := false }

/-- The error lock: `DONE` ← 0 and nothing else changes (R190). -/
def lockedReject (s : State) : State := { s with done := false }

/-- The accept check of R188 on a command other than CLEAR, and the command as one atomic transition (R42).
While `BUSY` = 1 a `CMD` write is outside the contract (R200); while `ERR` = 1 the lock refuses it
unexamined (R190); otherwise `check` gives the first cause of rejection, if any, before any effect, and
without one `op` is performed and the command completes. -/
def command (check : State → Option RejectCode) (op : State → State) (s : State) :
    Host.Outcome State Fault Refusal :=
  if s.busy then .refused .accessWhileBusy
  else if s.err then .next (lockedReject s)
  else
    match check s with
    | some c => .next (reject c s)
    | none => .next (complete (op s))

/-- No cause of rejection: a legal command that reads no `MSG` (R188). -/
def noCheck (_ : State) : Option RejectCode := none

/-- A word that is no command (R54): the lock, or `Reject(ERR_ILLEGAL)` (R185, R188). -/
def illegalCommand (s : State) : Host.Outcome State Fault Refusal :=
  command (fun _ => some .illegal) id s

/-- The exception return: CLEAR is accepted even while `ERR` = 1 (R188 step 1, R192), so no lock and no check
stands before its operation. -/
def commandAlways (op : State → State) (s : State) : Host.Outcome State Fault Refusal :=
  if s.busy then .refused .accessWhileBusy else .next (complete (op s))

/-- Reset (R198): the reset state, the command in progress abandoned. The parameter `MSG_CAP`, the inputs to
come and the last host read are not the CORE's state, and `MSG` is unspecified anew
(notes/assumptions/2.md, 10.md). -/
def resetEvent (s : State) : State :=
  { State.reset with
    msgCap := s.msgCap, msgEpoch := s.msgEpoch + 1, host := s.host, readOut := s.readOut }

end Sys2Proof.Machine
end

