-- ==== Sys2Proof/Machine/Operands.lean ====
section
/-! DEFINITION. The operands of the commands: the parameters an `ALG` code stands for (R51), the block a
COMPRESS or ABSORB works on (R38, R52), and the checks of R186 and R187. -/

namespace Sys2Proof.Machine

/-! ## The parameter table (R51) -/

/-- The block size `bs` in bytes (R51). -/
def blockSize : MdAlg → Nat
  | .md5 => 64 | .sha1 => 64 | .sha224 => 64 | .sha256 => 64 | .sha384 => 128 | .sha512 => 128

/-- The size `sl` of the length suffix in bytes (R51). -/
def suffixSize : MdAlg → Nat
  | .md5 => 8 | .sha1 => 8 | .sha224 => 8 | .sha256 => 8 | .sha384 => 16 | .sha512 => 16

/-- `OUTLEN` of a Merkle–Damgård variant (R51). -/
def mdOutLen : MdAlg → Nat
  | .md5 => 16 | .sha1 => 20 | .sha224 => 28 | .sha256 => 32 | .sha384 => 48 | .sha512 => 64

/-- `RATE` of a sponge variant (R51). -/
def rate : SpongeAlg → Nat
  | .sha3_224 => 144 | .sha3_256 => 136 | .sha3_384 => 104 | .sha3_512 => 72
  | .keccak224 => 144 | .keccak256 => 136 | .keccak384 => 104 | .keccak512 => 72

/-- `DOMAIN` of a sponge variant (R51): 0x06 for SHA-3, 0x01 for legacy Keccak. -/
def domainByte : SpongeAlg → Byte
  | .sha3_224 => 0x06 | .sha3_256 => 0x06 | .sha3_384 => 0x06 | .sha3_512 => 0x06
  | .keccak224 => 0x01 | .keccak256 => 0x01 | .keccak384 => 0x01 | .keccak512 => 0x01

/-- `OUTLEN` of a sponge variant (R51). -/
def spongeOutLen : SpongeAlg → Nat
  | .sha3_224 => 28 | .sha3_256 => 32 | .sha3_384 => 48 | .sha3_512 => 64
  | .keccak224 => 28 | .keccak256 => 32 | .keccak384 => 48 | .keccak512 => 64

/-! ## The block operand (R38, R52) -/

/-- The block source of an ABSORB among those of COMPRESS (R52). -/
def absorbSrc : SpongeSrc → Src
  | .blk => .blk | .msg => .msg | .fb0 => .fb0

/-- `LoadBlock(src, n)`: the n-byte block a command works on, the product BLKIDX·n without wrap-around (R38). -/
def loadBlock (src : Src) (n : Nat) (s : State) : List Byte :=
  match src with
  | .blk => s.blk.toList.take n
  | .msg => msgRead s (s.blkidx.toNat * n) n
  | .fb0 => s.fb0.toList.take n
  | .fb1 => s.fb1.toList.take n

/-! ## The checks before any effect (R186, R187, R188) -/

/-- The check of DIGEST, PAD and SPPAD: `LEN` > `MSG_CAP` is `ERR_LEN` (R186). -/
def lenCheck (s : State) : Option RejectCode :=
  if s.msgCap.val < s.len.toNat then some .len else none

/-- The check of COMPRESS and ABSORB: with block source `MSG`, `LEN` > `MSG_CAP` is `ERR_LEN` and then
(`BLKIDX` + 1)·n > `LEN`, on unbounded integers, is `ERR_RANGE` (R186, R187); another source is never
rejected. -/
def blockCheck (src : Src) (n : Nat) (s : State) : Option RejectCode :=
  match src with
  | .msg =>
    if s.msgCap.val < s.len.toNat then some .len
    else if s.len.toNat < (s.blkidx.toNat + 1) * n then some .range
    else none
  | .blk => none
  | .fb0 => none
  | .fb1 => none

end Sys2Proof.Machine
end

