-- ==== Sys2Proof/Machine/Padder.lean ====
section
/-! DEFINITION. Padding: U6, the Merkle–Damgård block padder (R57 to R59), and the final block of U7 (R122 to
R124). -/

namespace Sys2Proof.Machine

/-- The length suffix: the bit length 8·LEN in `sl` bytes, in the variant's byte order (R36, R78, R87, R99,
R111). -/
def suffix (a : MdAlg) (n : Nat) : List Byte :=
  match a with
  | .md5 => toLe (8 * n) 8
  | .sha1 => toBe (8 * n) 8
  | .sha224 => toBe (8 * n) 8
  | .sha256 => toBe (8 * n) 8
  | .sha384 => toBe (8 * n) 16
  | .sha512 => toBe (8 * n) 16

/-- The number of full blocks, `LEN` div n (R57, R122). -/
def fullBlocks (n : Nat) (s : State) : Nat := s.len.toNat / n

/-- The length of the remainder, `LEN` mod n (R57, R122). -/
def remainder (n : Nat) (s : State) : Nat := s.len.toNat % n

/-- The remainder: the message bytes after the full blocks (R57, R122). -/
def tail (n : Nat) (s : State) : List Byte := msgRead s (fullBlocks n s * n) (remainder n s)

/-- Full block number i of the message (R52, R57). -/
def fullBlock (n : Nat) (s : State) (i : Nat) : List Byte := msgRead s (i * n) n

/-- `needs_second_block`: the suffix does not fit after the delimiter (R57, R58). -/
def needsSecond (a : MdAlg) (s : State) : Bool :=
  decide (blockSize a - 1 - suffixSize a < remainder (blockSize a) s)

/-- `final_block_0` (R57). -/
def finalBlock0 (a : MdAlg) (s : State) : List Byte :=
  let bs := blockSize a
  let rem := remainder bs s
  if needsSecond a s then tail bs s ++ [0x80] ++ zeros (bs - 1 - rem)
  else tail bs s ++ [0x80] ++ zeros (bs - 1 - suffixSize a - rem) ++ suffix a s.len.toNat

/-- `final_block_1`: all zero when no second block is needed (R57). -/
def finalBlock1 (a : MdAlg) (s : State) : List Byte :=
  if needsSecond a s then zeros (blockSize a - suffixSize a) ++ suffix a s.len.toNat
  else zeros (blockSize a)

/-- The blocks a Merkle–Damgård digest compresses, in the order the spec requires: full blocks, then
`final_block_0`, then `final_block_1` if flagged (R45, R59, R163). -/
def paddedBlocks (a : MdAlg) (s : State) : List (List Byte) :=
  (List.range (fullBlocks (blockSize a) s)).map (fullBlock (blockSize a) s) ++
    finalBlock0 a s :: (if needsSecond a s then [finalBlock1 a s] else [])

/-- XORs `v` into byte `i` of a block (R122). -/
def xorByte (B : List Byte) (i : Nat) (v : Byte) : List Byte := B.set i (B.getD i 0 ^^^ v)

/-- The padded final block of the sponge: the remainder, `DOMAIN` XORed at the first unused byte, then 0x80
XORed into the last byte; at `rem` = RATE − 1 both land on one byte and combine (R122, R123). -/
def spongeFinalBlock (a : SpongeAlg) (s : State) : List Byte :=
  let r := rate a
  let rem := remainder r s
  xorByte (xorByte (tail r s ++ zeros (r - rem)) rem (domainByte a)) (r - 1) 0x80

/-- The blocks a sponge digest absorbs, in order (R45, R126). -/
def spongeBlocks (a : SpongeAlg) (s : State) : List (List Byte) :=
  (List.range (fullBlocks (rate a) s)).map (fullBlock (rate a) s) ++ [spongeFinalBlock a s]

end Sys2Proof.Machine
end

