-- ==== Sys2Proof/Machine/Keccak.lean ====
section
/-! DEFINITION. Unit U5, the Keccak-f[1600] permutation (R112 to R116), and the functions by which U7 drives it
(R34, R120 to R125). Lane (x, y) is `A[x + 5y]` (R112). -/

namespace Sys2Proof.Machine

/-- The rotate amounts `r[0..24]`, by source lane (R113). -/
def keccakR : List Nat :=
  [0, 1, 62, 28, 27,
   36, 44, 6, 55, 20,
   3, 10, 43, 25, 39,
   41, 45, 15, 21, 8,
   18, 2, 61, 56, 14]

/-- The wiring `p[0..24]`: where the lane i goes (R113). -/
def keccakP : List Nat :=
  [0, 10, 20, 5, 15,
   16, 1, 11, 21, 6,
   7, 17, 2, 12, 22,
   23, 8, 18, 3, 13,
   14, 24, 9, 19, 4]

/-- The round constants `RC[0..23]`, row by row as R114 prints them: a row holds entries i to i + 3. -/
def keccakRc : List Word64 :=
  List.flatten
    [[0x0000000000000001, 0x0000000000008082, 0x800000000000808a, 0x8000000080008000],
     [0x000000000000808b, 0x0000000080000001, 0x8000000080008081, 0x8000000000008009],
     [0x000000000000008a, 0x0000000000000088, 0x0000000080008009, 0x000000008000000a],
     [0x000000008000808b, 0x800000000000008b, 0x8000000000008089, 0x8000000000008003],
     [0x8000000000008002, 0x8000000000000080, 0x000000000000800a, 0x800000008000000a],
     [0x8000000080008081, 0x8000000000008080, 0x0000000080000001, 0x8000000080008008]]

/-- A complete set of 25 lanes inside the permutation, in index order: the fresh arrays `T`, `B`, `E` of R115. -/
abbrev Lanes := List Word64

/-- Lane i (R112); every index used below is less than 25. -/
def lane (A : Lanes) (i : Nat) : Word64 := A.getD i 0

/-- `C[0..4]`: the parity of each column (R115). -/
def keccakC (A : Lanes) : List Word64 :=
  (List.range 5).map fun x =>
    lane A x ^^^ lane A (x + 5) ^^^ lane A (x + 10) ^^^ lane A (x + 15) ^^^ lane A (x + 20)

/-- `D[0..4]` from the column parities (R115). -/
def keccakD (C : List Word64) : List Word64 :=
  (List.range 5).map fun x => C.getD ((x + 4) % 5) 0 ^^^ rotl (C.getD ((x + 1) % 5) 0) 1

/-- θ: `T[i]` = A[i] ^ D[i mod 5] (R115). -/
def keccakTheta (A : Lanes) : Lanes :=
  let D := keccakD (keccakC A)
  (List.range 25).map fun i => lane A i ^^^ D.getD (i % 5) 0

/-- ρ and π: `B[p[i]]` = rotl(T[i], r[i]) for each i, into a fresh array (R113, R115). -/
def keccakRhoPi (T : Lanes) : Lanes :=
  (List.range 25).foldl
    (fun B i => B.set (keccakP.getD i 0) (rotl (lane T i) (keccakR.getD i 0))) (List.replicate 25 0)

/-- χ: `E[x+5y]` = b ^ (~b_next & b_next2) on the lanes of row y, x modulo 5 (R115). -/
def keccakChi (B : Lanes) : Lanes :=
  (List.range 25).map fun i =>
    let x := i % 5
    let y := i / 5
    lane B (x + 5 * y) ^^^ (~~~ lane B ((x + 1) % 5 + 5 * y) &&& lane B ((x + 2) % 5 + 5 * y))

/-- ι: the round constant XORed into lane 0 (R115). -/
def keccakIota (E : Lanes) (rc : Word64) : Lanes := E.set 0 (lane E 0 ^^^ rc)

/-- `KeccakRound(A, rc)`: θ, ρ and π, χ, ι, each from the complete output of the step before (R115). -/
def keccakRound (A : Lanes) (rc : Word64) : Lanes :=
  keccakIota (keccakChi (keccakRhoPi (keccakTheta A))) rc

/-- The first `n` rounds of `KeccakF` (R116, R117). -/
def keccakRounds (n : Nat) (A : Lanes) : Lanes := (keccakRc.take n).foldl keccakRound A

/-- `KeccakF(A)`: 24 rounds (R116). -/
def keccakF (A : Vector Word64 25) : Vector Word64 25 :=
  let E := keccakRounds 24 A.toList
  Vector.ofFn fun i => lane E i.val

/-- The sponge's initial state: 25 zero lanes (R120). -/
def keccakZero : Vector Word64 25 := Vector.replicate 25 0

/-- The block's lanes XORed into the first `rate`/8 lanes; the capacity lanes are not touched (R121). -/
def xorBlock (rate : Nat) (A : Vector Word64 25) (B : List Byte) : Vector Word64 25 :=
  Vector.ofFn fun i => if i.val < rate / 8 then A[i] ^^^ laneLe64 B i.val else A[i]

/-- `Absorb(A, B, RATE)`: XOR, then permute (R121). -/
def absorb (rate : Nat) (A : Vector Word64 25) (B : List Byte) : Vector Word64 25 :=
  keccakF (xorBlock rate A B)

/-- The 200 bytes of the state, the lanes in index order, each little-endian (R34, R125). -/
def kecBytes (A : Vector Word64 25) : List Byte := A.toList.flatMap fun a => toLe a.toNat 8

/-- `Squeeze(A, OUT)`: the first `OUT` bytes; no permutation is run (R125). -/
def squeeze (A : Vector Word64 25) (out : Nat) : List Byte := (kecBytes A).take out

end Sys2Proof.Machine
end

