-- ==== Sys2Proof/Machine/Md5.lean ====
section
/-! DEFINITION. Unit U1, the MD5 compression function (R67 to R73). -/

namespace Sys2Proof.Machine

/-- `IV_MD5` (R68). -/
def md5Iv : Vector Word32 4 := #v[0x67452301, 0xefcdab89, 0x98badcfe, 0x10325476]

/-- The constant table `K[0..63]`, row by row as R69 prints it: a row holds entries i to i + 3. -/
def md5K : List Word32 :=
  List.flatten
    [[0xd76aa478, 0xe8c7b756, 0x242070db, 0xc1bdceee], [0xf57c0faf, 0x4787c62a, 0xa8304613, 0xfd469501],
     [0x698098d8, 0x8b44f7af, 0xffff5bb1, 0x895cd7be], [0x6b901122, 0xfd987193, 0xa679438e, 0x49b40821],
     [0xf61e2562, 0xc040b340, 0x265e5a51, 0xe9b6c7aa], [0xd62f105d, 0x02441453, 0xd8a1e681, 0xe7d3fbc8],
     [0x21e1cde6, 0xc33707d6, 0xf4d50d87, 0x455a14ed], [0xa9e3e905, 0xfcefa3f8, 0x676f02d9, 0x8d2a4c8a],
     [0xfffa3942, 0x8771f681, 0x6d9d6122, 0xfde5380c], [0xa4beea44, 0x4bdecfa9, 0xf6bb4b60, 0xbebfbc70],
     [0x289b7ec6, 0xeaa127fa, 0xd4ef3085, 0x04881d05], [0xd9d4d039, 0xe6db99e5, 0x1fa27cf8, 0xc4ac5665],
     [0xf4292244, 0x432aff97, 0xab9423a7, 0xfc93a039], [0x655b59c3, 0x8f0ccc92, 0xffeff47d, 0x85845dd1],
     [0x6fa87e4f, 0xfe2ce6e0, 0xa3014314, 0x4e0811a1], [0xf7537e82, 0xbd3af235, 0x2ad7d2bb, 0xeb86d391]]

/-- The rotate amounts `s[0..63]`: four entries repeated in each round (R70). -/
def md5S (i : Nat) : Nat :=
  if i < 16 then [7, 12, 17, 22].getD (i % 4) 0
  else if i < 32 then [5, 9, 14, 20].getD (i % 4) 0
  else if i < 48 then [4, 11, 16, 23].getD (i % 4) 0
  else [6, 10, 15, 21].getD (i % 4) 0

/-- The message-word index `g[0..63]` (R71). -/
def md5G (i : Nat) : Nat :=
  if i < 16 then i
  else if i < 32 then (5 * i + 1) % 16
  else if i < 48 then (3 * i + 5) % 16
  else 7 * i % 16

/-- The function `F` (R72). -/
def md5F (b c d : Word32) : Word32 := (b &&& c) ||| (~~~b &&& d)

/-- The function `G` (R72). -/
def md5FnG (b c d : Word32) : Word32 := (b &&& d) ||| (c &&& ~~~d)

/-- The function `Hx` (R72). -/
def md5Hx (b c d : Word32) : Word32 := b ^^^ c ^^^ d

/-- The function `I` (R72). -/
def md5I (b c d : Word32) : Word32 := c ^^^ (b ||| ~~~d)

/-- Which function step i uses (R73). -/
def md5Fn (i : Nat) (b c d : Word32) : Word32 :=
  if i < 16 then md5F b c d
  else if i < 32 then md5FnG b c d
  else if i < 48 then md5Hx b c d
  else md5I b c d

/-- The working variables of U1 (R17). -/
structure Md5Vars where
  a : Word32
  b : Word32
  c : Word32
  d : Word32
  deriving DecidableEq, Repr

/-- Step i on the block words `M`: all four variables are read before any is written (R73). -/
def md5Step (M : List Word32) (v : Md5Vars) (i : Nat) : Md5Vars :=
  let t := v.a + md5Fn i v.b v.c v.d + md5K.getD i 0 + M.getD (md5G i) 0
  { a := v.d, b := v.b + rotl t (md5S i), c := v.b, d := v.c }

/-- The working variables after the first `n` steps on block `B` from state `H` (R73, R74). -/
def md5Rounds (H : Vector Word32 4) (B : List Byte) (n : Nat) : Md5Vars :=
  (List.range n).foldl (md5Step (wordsLe32 B)) { a := H[0], b := H[1], c := H[2], d := H[3] }

/-- `MD5Compress(H, B)`: 64 steps and the feed-forward (R73). -/
def md5Compress (H : Vector Word32 4) (B : List Byte) : Vector Word32 4 :=
  let v := md5Rounds H B 64
  #v[H[0] + v.a, H[1] + v.b, H[2] + v.c, H[3] + v.d]

/-- The serialization of `MD5.H`: word 0 first, little-endian (R35, R77). -/
def md5Bytes (H : Vector Word32 4) : List Byte := H.toList.flatMap fun h => toLe h.toNat 4

end Sys2Proof.Machine
end

