-- ==== Sys2Proof/Machine/Sha1.lean ====
section
/-! DEFINITION. Unit U2, the SHA-1 compression function (R67, R79 to R82). -/

namespace Sys2Proof.Machine

/-- `IV_SHA1` (R79). -/
def sha1Iv : Vector Word32 5 := #v[0x67452301, 0xefcdab89, 0x98badcfe, 0x10325476, 0xc3d2e1f0]

/-- The constant of the 20-step band of step t (R80). -/
def sha1K (t : Nat) : Word32 :=
  if t < 20 then 0x5a827999
  else if t < 40 then 0x6ed9eba1
  else if t < 60 then 0x8f1bbcdc
  else 0xca62c1d6

/-- `Ch` (R81). -/
def sha1Ch (b c d : Word32) : Word32 := (b &&& c) ||| (~~~b &&& d)

/-- `Parity` (R81). -/
def sha1Parity (b c d : Word32) : Word32 := b ^^^ c ^^^ d

/-- `Maj` (R81). -/
def sha1Maj (b c d : Word32) : Word32 := (b &&& c) ||| (b &&& d) ||| (c &&& d)

/-- The function of the band of step t: Ch, Parity, Maj, Parity (R81). -/
def sha1Fn (t : Nat) (b c d : Word32) : Word32 :=
  if t < 20 then sha1Ch b c d
  else if t < 40 then sha1Parity b c d
  else if t < 60 then sha1Maj b c d
  else sha1Parity b c d

/-- `w[t]`, t ≥ 16, from the words before it (R82). -/
def sha1NextWord (w : List Word32) (t : Nat) : Word32 :=
  rotl (w.getD (t - 3) 0 ^^^ w.getD (t - 8) 0 ^^^ w.getD (t - 14) 0 ^^^ w.getD (t - 16) 0) 1

/-- The message schedule of 80 words (R82). -/
def sha1Schedule (B : List Byte) : List Word32 :=
  (List.range' 16 64).foldl (fun w t => w ++ [sha1NextWord w t]) (wordsBe32 B)

/-- The working variables of U2 (R17). -/
structure Sha1Vars where
  a : Word32
  b : Word32
  c : Word32
  d : Word32
  e : Word32
  deriving DecidableEq, Repr

/-- Step t on the schedule `w`: all five variables are read before any is written (R82). -/
def sha1Step (w : List Word32) (v : Sha1Vars) (t : Nat) : Sha1Vars :=
  let T := rotl v.a 5 + sha1Fn t v.b v.c v.d + v.e + sha1K t + w.getD t 0
  { a := T, b := v.a, c := rotl v.b 30, d := v.c, e := v.d }

/-- The working variables after the first `n` steps on block `B` from state `H` (R82, R83). -/
def sha1Rounds (H : Vector Word32 5) (B : List Byte) (n : Nat) : Sha1Vars :=
  (List.range n).foldl (sha1Step (sha1Schedule B))
    { a := H[0], b := H[1], c := H[2], d := H[3], e := H[4] }

/-- `SHA1Compress(H, B)`: 80 steps and the feed-forward (R82). -/
def sha1Compress (H : Vector Word32 5) (B : List Byte) : Vector Word32 5 :=
  let v := sha1Rounds H B 80
  #v[H[0] + v.a, H[1] + v.b, H[2] + v.c, H[3] + v.d, H[4] + v.e]

/-- The serialization of `SHA1.H`: word 0 first, big-endian (R35, R86). -/
def sha1Bytes (H : Vector Word32 5) : List Byte := H.toList.flatMap fun h => toBe h.toNat 4

end Sys2Proof.Machine
end

