-- ==== Sys2Proof/Machine/Sha2.lean ====
section
/-! DEFINITION. Units U3 and U4, the SHA-2 compression function over 32-bit words (R88 to R91) and over 64-bit
words (R100 to R103). The two units have the same structure (C2 of spec/90_conflicts.md): the schedule and the
round are written once over what the two units give differently. -/

namespace Sys2Proof.Machine

/-! ## Constants -/

/-- `IV_SHA256` (R88). -/
def sha256Iv : Vector Word32 8 :=
  #v[0x6a09e667, 0xbb67ae85, 0x3c6ef372, 0xa54ff53a,
    0x510e527f, 0x9b05688c, 0x1f83d9ab, 0x5be0cd19]

/-- `IV_SHA224` (R88). -/
def sha224Iv : Vector Word32 8 :=
  #v[0xc1059ed8, 0x367cd507, 0x3070dd17, 0xf70e5939,
    0xffc00b31, 0x68581511, 0x64f98fa7, 0xbefa4fa4]

/-- `IV_SHA512` (R100). -/
def sha512Iv : Vector Word64 8 :=
  #v[0x6a09e667f3bcc908, 0xbb67ae8584caa73b, 0x3c6ef372fe94f82b, 0xa54ff53a5f1d36f1,
    0x510e527fade682d1, 0x9b05688c2b3e6c1f, 0x1f83d9abfb41bd6b, 0x5be0cd19137e2179]

/-- `IV_SHA384` (R100). -/
def sha384Iv : Vector Word64 8 :=
  #v[0xcbbb9d5dc1059ed8, 0x629a292a367cd507, 0x9159015a3070dd17, 0x152fecd8f70e5939,
    0x67332667ffc00b31, 0x8eb44a8768581511, 0xdb0c2e0d64f98fa7, 0x47b5481dbefa4fa4]

/-- The round constants `K256[0..63]`, row by row as R89 prints them: a row holds entries i to i + 3. -/
def k256 : List Word32 :=
  List.flatten
    [[0x428a2f98, 0x71374491, 0xb5c0fbcf, 0xe9b5dba5], [0x3956c25b, 0x59f111f1, 0x923f82a4, 0xab1c5ed5],
     [0xd807aa98, 0x12835b01, 0x243185be, 0x550c7dc3], [0x72be5d74, 0x80deb1fe, 0x9bdc06a7, 0xc19bf174],
     [0xe49b69c1, 0xefbe4786, 0x0fc19dc6, 0x240ca1cc], [0x2de92c6f, 0x4a7484aa, 0x5cb0a9dc, 0x76f988da],
     [0x983e5152, 0xa831c66d, 0xb00327c8, 0xbf597fc7], [0xc6e00bf3, 0xd5a79147, 0x06ca6351, 0x14292967],
     [0x27b70a85, 0x2e1b2138, 0x4d2c6dfc, 0x53380d13], [0x650a7354, 0x766a0abb, 0x81c2c92e, 0x92722c85],
     [0xa2bfe8a1, 0xa81a664b, 0xc24b8b70, 0xc76c51a3], [0xd192e819, 0xd6990624, 0xf40e3585, 0x106aa070],
     [0x19a4c116, 0x1e376c08, 0x2748774c, 0x34b0bcb5], [0x391c0cb3, 0x4ed8aa4a, 0x5b9cca4f, 0x682e6ff3],
     [0x748f82ee, 0x78a5636f, 0x84c87814, 0x8cc70208], [0x90befffa, 0xa4506ceb, 0xbef9a3f7, 0xc67178f2]]

/-- The round constants `K512[0..79]`, row by row as R101 prints them: a row holds entries i to i + 3. -/
def k512 : List Word64 :=
  List.flatten
    [[0x428a2f98d728ae22, 0x7137449123ef65cd, 0xb5c0fbcfec4d3b2f, 0xe9b5dba58189dbbc],
     [0x3956c25bf348b538, 0x59f111f1b605d019, 0x923f82a4af194f9b, 0xab1c5ed5da6d8118],
     [0xd807aa98a3030242, 0x12835b0145706fbe, 0x243185be4ee4b28c, 0x550c7dc3d5ffb4e2],
     [0x72be5d74f27b896f, 0x80deb1fe3b1696b1, 0x9bdc06a725c71235, 0xc19bf174cf692694],
     [0xe49b69c19ef14ad2, 0xefbe4786384f25e3, 0x0fc19dc68b8cd5b5, 0x240ca1cc77ac9c65],
     [0x2de92c6f592b0275, 0x4a7484aa6ea6e483, 0x5cb0a9dcbd41fbd4, 0x76f988da831153b5],
     [0x983e5152ee66dfab, 0xa831c66d2db43210, 0xb00327c898fb213f, 0xbf597fc7beef0ee4],
     [0xc6e00bf33da88fc2, 0xd5a79147930aa725, 0x06ca6351e003826f, 0x142929670a0e6e70],
     [0x27b70a8546d22ffc, 0x2e1b21385c26c926, 0x4d2c6dfc5ac42aed, 0x53380d139d95b3df],
     [0x650a73548baf63de, 0x766a0abb3c77b2a8, 0x81c2c92e47edaee6, 0x92722c851482353b],
     [0xa2bfe8a14cf10364, 0xa81a664bbc423001, 0xc24b8b70d0f89791, 0xc76c51a30654be30],
     [0xd192e819d6ef5218, 0xd69906245565a910, 0xf40e35855771202a, 0x106aa07032bbd1b8],
     [0x19a4c116b8d2d0c8, 0x1e376c085141ab53, 0x2748774cdf8eeb99, 0x34b0bcb5e19b48a8],
     [0x391c0cb3c5c95a63, 0x4ed8aa4ae3418acb, 0x5b9cca4f7763e373, 0x682e6ff3d6b2b8a3],
     [0x748f82ee5defb2fc, 0x78a5636f43172f60, 0x84c87814a1f0ab72, 0x8cc702081a6439ec],
     [0x90befffa23631e28, 0xa4506cebde82bde9, 0xbef9a3f7b2c67915, 0xc67178f2e372532b],
     [0xca273eceea26619c, 0xd186b8c721c0c207, 0xeada7dd6cde0eb1e, 0xf57d4f7fee6ed178],
     [0x06f067aa72176fba, 0x0a637dc5a2c898a6, 0x113f9804bef90dae, 0x1b710b35131c471b],
     [0x28db77f523047d84, 0x32caab7b40c72493, 0x3c9ebe0a15c9bebc, 0x431d67c49c100d4c],
     [0x4cc5d4becb3e42b6, 0x597f299cfc657e2a, 0x5fcb6fab3ad6faec, 0x6c44198c4a475817]]

/-! ## Functions -/

/-- `Ch` (R90, R102). -/
def sha2Ch {w : Nat} (e f g : BitVec w) : BitVec w := (e &&& f) ^^^ (~~~e &&& g)

/-- `Maj` (R90, R102). -/
def sha2Maj {w : Nat} (a b c : BitVec w) : BitVec w := (a &&& b) ^^^ (a &&& c) ^^^ (b &&& c)

/-- Big-sigma0 of U3 (R90). -/
def s32Bsig0 (a : Word32) : Word32 := rotr a 2 ^^^ rotr a 13 ^^^ rotr a 22

/-- Big-sigma1 of U3 (R90). -/
def s32Bsig1 (e : Word32) : Word32 := rotr e 6 ^^^ rotr e 11 ^^^ rotr e 25

/-- sigma0 of U3, for the schedule (R90). -/
def s32Ssig0 (x : Word32) : Word32 := rotr x 7 ^^^ rotr x 18 ^^^ shr x 3

/-- sigma1 of U3, for the schedule (R90). -/
def s32Ssig1 (x : Word32) : Word32 := rotr x 17 ^^^ rotr x 19 ^^^ shr x 10

/-- Big-sigma0 of U4 (R102). -/
def s64Bsig0 (a : Word64) : Word64 := rotr a 28 ^^^ rotr a 34 ^^^ rotr a 39

/-- Big-sigma1 of U4 (R102). -/
def s64Bsig1 (e : Word64) : Word64 := rotr e 14 ^^^ rotr e 18 ^^^ rotr e 41

/-- sigma0 of U4, for the schedule (R102). -/
def s64Ssig0 (x : Word64) : Word64 := rotr x 1 ^^^ rotr x 8 ^^^ shr x 7

/-- sigma1 of U4, for the schedule (R102). -/
def s64Ssig1 (x : Word64) : Word64 := rotr x 19 ^^^ rotr x 61 ^^^ shr x 6

/-! ## The compression function -/

/-- What U3 and U4 give differently: the number of rounds, the constants and the sigma functions. -/
structure Sha2Unit (w : Nat) where
  rounds : Nat
  k      : List (BitVec w)
  bsig0  : BitVec w → BitVec w
  bsig1  : BitVec w → BitVec w
  ssig0  : BitVec w → BitVec w
  ssig1  : BitVec w → BitVec w

/-- U3: 64 rounds on 32-bit words (R89 to R91). -/
def unitS32 : Sha2Unit 32 :=
  { rounds := 64, k := k256
    bsig0 := s32Bsig0, bsig1 := s32Bsig1, ssig0 := s32Ssig0, ssig1 := s32Ssig1 }

/-- U4: 80 rounds on 64-bit words (R101 to R103). -/
def unitS64 : Sha2Unit 64 :=
  { rounds := 80, k := k512
    bsig0 := s64Bsig0, bsig1 := s64Bsig1, ssig0 := s64Ssig0, ssig1 := s64Ssig1 }

/-- `W[t]`, t ≥ 16, from the words before it (R91, R103). -/
def sha2NextWord {w : Nat} (U : Sha2Unit w) (W : List (BitVec w)) (t : Nat) : BitVec w :=
  U.ssig1 (W.getD (t - 2) 0) + W.getD (t - 7) 0 + U.ssig0 (W.getD (t - 15) 0) + W.getD (t - 16) 0

/-- The message schedule from the 16 block words (R91, R103). -/
def sha2Schedule {w : Nat} (U : Sha2Unit w) (W16 : List (BitVec w)) : List (BitVec w) :=
  (List.range' 16 (U.rounds - 16)).foldl (fun W t => W ++ [sha2NextWord U W t]) W16

/-- The working variables of U3 and U4 (R17). -/
structure Sha2Vars (w : Nat) where
  a : BitVec w
  b : BitVec w
  c : BitVec w
  d : BitVec w
  e : BitVec w
  f : BitVec w
  g : BitVec w
  h : BitVec w
  deriving DecidableEq, Repr

/-- Round t on the schedule `W`: all eight variables are read before any is written (R91, R103). -/
def sha2Round {w : Nat} (U : Sha2Unit w) (W : List (BitVec w)) (v : Sha2Vars w) (t : Nat) : Sha2Vars w :=
  let T1 := v.h + U.bsig1 v.e + sha2Ch v.e v.f v.g + U.k.getD t 0 + W.getD t 0
  let T2 := U.bsig0 v.a + sha2Maj v.a v.b v.c
  { a := T1 + T2, b := v.a, c := v.b, d := v.c, e := v.d + T1, f := v.e, g := v.f, h := v.g }

/-- The working variables after the first `n` rounds from state `H` on the 16 block words (R91, R92, R103,
R104). -/
def sha2Rounds {w : Nat} (U : Sha2Unit w) (H : Vector (BitVec w) 8) (W16 : List (BitVec w)) (n : Nat) :
    Sha2Vars w :=
  (List.range n).foldl (sha2Round U (sha2Schedule U W16))
    { a := H[0], b := H[1], c := H[2], d := H[3], e := H[4], f := H[5], g := H[6], h := H[7] }

/-- All rounds and the feed-forward (R91, R103). -/
def sha2Compress {w : Nat} (U : Sha2Unit w) (H : Vector (BitVec w) 8) (W16 : List (BitVec w)) :
    Vector (BitVec w) 8 :=
  let v := sha2Rounds U H W16 U.rounds
  #v[H[0] + v.a, H[1] + v.b, H[2] + v.c, H[3] + v.d, H[4] + v.e, H[5] + v.f, H[6] + v.g, H[7] + v.h]

/-- `SHA2S_Compress(H, B)` (R91). -/
def s32Compress (H : Vector Word32 8) (B : List Byte) : Vector Word32 8 :=
  sha2Compress unitS32 H (wordsBe32 B)

/-- `SHA2L_Compress(H, B)` (R103). -/
def s64Compress (H : Vector Word64 8) (B : List Byte) : Vector Word64 8 :=
  sha2Compress unitS64 H (wordsBe64 B)

/-- The serialization of `S32.H`, all eight words big-endian, before truncation (R35, R97, R98). -/
def s32Bytes (H : Vector Word32 8) : List Byte := H.toList.flatMap fun h => toBe h.toNat 4

/-- The serialization of `S64.H`, all eight words big-endian, before truncation (R35, R109, R110). -/
def s64Bytes (H : Vector Word64 8) : List Byte := H.toList.flatMap fun h => toBe h.toNat 8

end Sys2Proof.Machine
end

