-- ==== Sys2Proof/Machine/Units.lean ====
section
/-! DEFINITION. The units on the state: the engine file `E` that a variant selects (R17, R51), loaded with its
IV, compressed into, serialized and zeroed. -/

namespace Sys2Proof.Machine

/-- `E <- IV` of a Merkle–Damgård variant (R68, R79, R88, R100). -/
def initFile (a : MdAlg) (s : State) : State :=
  match a with
  | .md5 => { s with md5 := md5Iv }
  | .sha1 => { s with sha1 := sha1Iv }
  | .sha224 => { s with s32 := sha224Iv }
  | .sha256 => { s with s32 := sha256Iv }
  | .sha384 => { s with s64 := sha384Iv }
  | .sha512 => { s with s64 := sha512Iv }

/-- `E <- Compress(E, B)` of a Merkle–Damgård variant (R73, R82, R91, R103). -/
def compressFile (a : MdAlg) (B : List Byte) (s : State) : State :=
  match a with
  | .md5 => { s with md5 := md5Compress s.md5 B }
  | .sha1 => { s with sha1 := sha1Compress s.sha1 B }
  | .sha224 => { s with s32 := s32Compress s.s32 B }
  | .sha256 => { s with s32 := s32Compress s.s32 B }
  | .sha384 => { s with s64 := s64Compress s.s64 B }
  | .sha512 => { s with s64 := s64Compress s.s64 B }

/-- The serialization of the engine file in full: word 0 first, in the unit's byte order (R35). -/
def fileBytes (a : MdAlg) (s : State) : List Byte :=
  match a with
  | .md5 => md5Bytes s.md5
  | .sha1 => sha1Bytes s.sha1
  | .sha224 => s32Bytes s.s32
  | .sha256 => s32Bytes s.s32
  | .sha384 => s64Bytes s.s64
  | .sha512 => s64Bytes s.s64

/-- `E <- 0`, all registers of the file (R163). -/
def zeroFile (a : MdAlg) (s : State) : State :=
  match a with
  | .md5 => { s with md5 := Vector.replicate 4 0 }
  | .sha1 => { s with sha1 := Vector.replicate 5 0 }
  | .sha224 => { s with s32 := Vector.replicate 8 0 }
  | .sha256 => { s with s32 := Vector.replicate 8 0 }
  | .sha384 => { s with s64 := Vector.replicate 8 0 }
  | .sha512 => { s with s64 := Vector.replicate 8 0 }

/-- The serialization truncated to `OUTLEN` (R35, R97, R109). -/
def serialization (a : MdAlg) (s : State) : List Byte := (fileBytes a s).take (mdOutLen a)

end Sys2Proof.Machine
end

