-- ==== Sys2Proof/Machine/Commands.lean ====
section
/-! DEFINITION. What each of the ten operations does, over the algorithm and the block source; every command's
meaning is one line over these (Init.lean to Digest.lean). -/

namespace Sys2Proof.Machine

/-- `INIT.a`, a Merkle–Damgård: `E <- IV` (R75, R84, R93, R94, R105, R106). -/
def initMd (a : MdAlg) (s : State) : Host.Outcome State Fault Refusal := command noCheck (initFile a) s

/-- `INIT.a`, a a sponge variant: `KEC.A <- 0`, the same for all eight (R127). -/
def initSponge (s : State) : Host.Outcome State Fault Refusal :=
  command noCheck (fun t => { t with kec := keccakZero }) s

/-- `COMPRESS.a src` (R76, R85, R95, R96, R107, R108). -/
def compressCmd (a : MdAlg) (src : Src) (s : State) : Host.Outcome State Fault Refusal :=
  command (blockCheck src (blockSize a)) (fun t => compressFile a (loadBlock src (blockSize a) t) t) s

/-- What PAD delivers (R60). -/
def padOp (a : MdAlg) (s : State) : State :=
  putPad (fullBlocks (blockSize a) s) (remainder (blockSize a) s) (needsSecond a s) (finalBlock0 a s)
    (finalBlock1 a s) s

/-- `PAD.a` (R60). -/
def padCmd (a : MdAlg) (s : State) : Host.Outcome State Fault Refusal := command lenCheck (padOp a) s

/-- `SERIALIZE.a` (R77, R86, R97, R98, R109, R110). -/
def serializeCmd (a : MdAlg) (s : State) : Host.Outcome State Fault Refusal :=
  command noCheck (fun t => putDigest (serialization a t) (mdOutLen a) t) s

/-- `PERMUTE` (R118). -/
def permuteCmd (s : State) : Host.Outcome State Fault Refusal :=
  command noCheck (fun t => { t with kec := keccakF t.kec }) s

/-- `ABSORB.a src` (R128). -/
def absorbCmd (a : SpongeAlg) (src : SpongeSrc) (s : State) : Host.Outcome State Fault Refusal :=
  command (blockCheck (absorbSrc src) (rate a))
    (fun t => { t with kec := absorb (rate a) t.kec (loadBlock (absorbSrc src) (rate a) t) }) s

/-- What SPPAD delivers: one final block, never a second (R129). -/
def sppadOp (a : SpongeAlg) (s : State) : State :=
  putPad (fullBlocks (rate a) s) (remainder (rate a) s) false (spongeFinalBlock a s) [] s

/-- `SPPAD.a` (R129). -/
def sppadCmd (a : SpongeAlg) (s : State) : Host.Outcome State Fault Refusal := command lenCheck (sppadOp a) s

/-- `SQUEEZE.a` (R130). -/
def squeezeCmd (a : SpongeAlg) (s : State) : Host.Outcome State Fault Refusal :=
  command noCheck (fun t => putDigest (squeeze t.kec (spongeOutLen a)) (spongeOutLen a) t) s

/-- The digest of a Merkle–Damgård variant: from the IV, the padded blocks compressed in order, serialized and
truncated; the engine registers are not read (R163). -/
def mdDigest (a : MdAlg) (s : State) : List Byte :=
  let blocks := paddedBlocks a s
  let whole :=
    match a with
    | .md5 => md5Bytes (blocks.foldl md5Compress md5Iv)
    | .sha1 => sha1Bytes (blocks.foldl sha1Compress sha1Iv)
    | .sha224 => s32Bytes (blocks.foldl s32Compress sha224Iv)
    | .sha256 => s32Bytes (blocks.foldl s32Compress sha256Iv)
    | .sha384 => s64Bytes (blocks.foldl s64Compress sha384Iv)
    | .sha512 => s64Bytes (blocks.foldl s64Compress sha512Iv)
  whole.take (mdOutLen a)

/-- The whole sponge function, `Sponge(a)` (R126). -/
def spongeDigest (a : SpongeAlg) (s : State) : List Byte :=
  squeeze ((spongeBlocks a s).foldl (absorb (rate a)) keccakZero) (spongeOutLen a)

/-- `DIGEST.a`, a Merkle–Damgård: the digest is delivered, then the engine file and the padder's results are
zeroed (R163). -/
def digestMdCmd (a : MdAlg) (s : State) : Host.Outcome State Fault Refusal :=
  command lenCheck (fun t => zeroPad (zeroFile a (putDigest (mdDigest a t) (mdOutLen a) t))) s

/-- `DIGEST.a`, a a sponge variant (R165). -/
def digestSpongeCmd (a : SpongeAlg) (s : State) : Host.Outcome State Fault Refusal :=
  command lenCheck
    (fun t => zeroPad { putDigest (spongeDigest a t) (spongeOutLen a) t with kec := keccakZero }) s

/-- What CLEAR does: everything but `MSG` is zeroed and the error state is left (R181). -/
def clearOp (s : State) : State :=
  { s with
    md5 := Vector.replicate 4 0, sha1 := Vector.replicate 5 0, s32 := Vector.replicate 8 0
    s64 := Vector.replicate 8 0, kec := Vector.replicate 25 0
    len := 0, blkidx := 0, nfull := 0, rem := 0, need2 := false, dlen := 0
    blk := Vector.replicate 144 0, fb0 := Vector.replicate 144 0
    fb1 := Vector.replicate 128 0, dout := Vector.replicate 64 0
    rejected := none }

/-- `CLEAR` (R181): accepted even while `ERR` = 1. -/
def clearCmd (s : State) : Host.Outcome State Fault Refusal := commandAlways clearOp s

end Sys2Proof.Machine
end

