-- ==== Sys2Proof/Machine/Compress.lean ====
section
/-! DEFINITION. The meanings of COMPRESS: one block compressed into the engine file. Each command has a
definition of its own. -/

namespace Sys2Proof.Machine

/-- `COMPRESS.MD5 BLK` (R76). -/
def execCompressMd5Blk (s : State) : Host.Outcome State Fault Refusal := compressCmd .md5 .blk s

/-- `COMPRESS.SHA1 BLK` (R85). -/
def execCompressSha1Blk (s : State) : Host.Outcome State Fault Refusal := compressCmd .sha1 .blk s

/-- `COMPRESS.SHA224 BLK` (R95). -/
def execCompressSha224Blk (s : State) : Host.Outcome State Fault Refusal := compressCmd .sha224 .blk s

/-- `COMPRESS.SHA256 BLK` (R96). -/
def execCompressSha256Blk (s : State) : Host.Outcome State Fault Refusal := compressCmd .sha256 .blk s

/-- `COMPRESS.SHA384 BLK` (R107). -/
def execCompressSha384Blk (s : State) : Host.Outcome State Fault Refusal := compressCmd .sha384 .blk s

/-- `COMPRESS.SHA512 BLK` (R108). -/
def execCompressSha512Blk (s : State) : Host.Outcome State Fault Refusal := compressCmd .sha512 .blk s

/-- `COMPRESS.MD5 MSG` (R76). -/
def execCompressMd5Msg (s : State) : Host.Outcome State Fault Refusal := compressCmd .md5 .msg s

/-- `COMPRESS.SHA1 MSG` (R85). -/
def execCompressSha1Msg (s : State) : Host.Outcome State Fault Refusal := compressCmd .sha1 .msg s

/-- `COMPRESS.SHA224 MSG` (R95). -/
def execCompressSha224Msg (s : State) : Host.Outcome State Fault Refusal := compressCmd .sha224 .msg s

/-- `COMPRESS.SHA256 MSG` (R96). -/
def execCompressSha256Msg (s : State) : Host.Outcome State Fault Refusal := compressCmd .sha256 .msg s

/-- `COMPRESS.SHA384 MSG` (R107). -/
def execCompressSha384Msg (s : State) : Host.Outcome State Fault Refusal := compressCmd .sha384 .msg s

/-- `COMPRESS.SHA512 MSG` (R108). -/
def execCompressSha512Msg (s : State) : Host.Outcome State Fault Refusal := compressCmd .sha512 .msg s

/-- `COMPRESS.MD5 FB0` (R76). -/
def execCompressMd5Fb0 (s : State) : Host.Outcome State Fault Refusal := compressCmd .md5 .fb0 s

/-- `COMPRESS.SHA1 FB0` (R85). -/
def execCompressSha1Fb0 (s : State) : Host.Outcome State Fault Refusal := compressCmd .sha1 .fb0 s

/-- `COMPRESS.SHA224 FB0` (R95). -/
def execCompressSha224Fb0 (s : State) : Host.Outcome State Fault Refusal := compressCmd .sha224 .fb0 s

/-- `COMPRESS.SHA256 FB0` (R96). -/
def execCompressSha256Fb0 (s : State) : Host.Outcome State Fault Refusal := compressCmd .sha256 .fb0 s

/-- `COMPRESS.SHA384 FB0` (R107). -/
def execCompressSha384Fb0 (s : State) : Host.Outcome State Fault Refusal := compressCmd .sha384 .fb0 s

/-- `COMPRESS.SHA512 FB0` (R108). -/
def execCompressSha512Fb0 (s : State) : Host.Outcome State Fault Refusal := compressCmd .sha512 .fb0 s

/-- `COMPRESS.MD5 FB1` (R76). -/
def execCompressMd5Fb1 (s : State) : Host.Outcome State Fault Refusal := compressCmd .md5 .fb1 s

/-- `COMPRESS.SHA1 FB1` (R85). -/
def execCompressSha1Fb1 (s : State) : Host.Outcome State Fault Refusal := compressCmd .sha1 .fb1 s

/-- `COMPRESS.SHA224 FB1` (R95). -/
def execCompressSha224Fb1 (s : State) : Host.Outcome State Fault Refusal := compressCmd .sha224 .fb1 s

/-- `COMPRESS.SHA256 FB1` (R96). -/
def execCompressSha256Fb1 (s : State) : Host.Outcome State Fault Refusal := compressCmd .sha256 .fb1 s

/-- `COMPRESS.SHA384 FB1` (R107). -/
def execCompressSha384Fb1 (s : State) : Host.Outcome State Fault Refusal := compressCmd .sha384 .fb1 s

/-- `COMPRESS.SHA512 FB1` (R108). -/
def execCompressSha512Fb1 (s : State) : Host.Outcome State Fault Refusal := compressCmd .sha512 .fb1 s

end Sys2Proof.Machine
end

