-- ==== Sys2Proof/Machine/Digest.lean ====
section
/-! DEFINITION. The meanings of DIGEST and CLEAR: the whole-message commands and the return from the error
state. Each command has a definition of its own. -/

namespace Sys2Proof.Machine

/-- `DIGEST.MD5` (R167). -/
def execDigestMd5 (s : State) : Host.Outcome State Fault Refusal := digestMdCmd .md5 s

/-- `DIGEST.SHA1` (R168). -/
def execDigestSha1 (s : State) : Host.Outcome State Fault Refusal := digestMdCmd .sha1 s

/-- `DIGEST.SHA224` (R169). -/
def execDigestSha224 (s : State) : Host.Outcome State Fault Refusal := digestMdCmd .sha224 s

/-- `DIGEST.SHA256` (R170). -/
def execDigestSha256 (s : State) : Host.Outcome State Fault Refusal := digestMdCmd .sha256 s

/-- `DIGEST.SHA384` (R171). -/
def execDigestSha384 (s : State) : Host.Outcome State Fault Refusal := digestMdCmd .sha384 s

/-- `DIGEST.SHA512` (R172). -/
def execDigestSha512 (s : State) : Host.Outcome State Fault Refusal := digestMdCmd .sha512 s

/-- `DIGEST.SHA3_224` (R173). -/
def execDigestSha3_224 (s : State) : Host.Outcome State Fault Refusal := digestSpongeCmd .sha3_224 s

/-- `DIGEST.SHA3_256` (R174). -/
def execDigestSha3_256 (s : State) : Host.Outcome State Fault Refusal := digestSpongeCmd .sha3_256 s

/-- `DIGEST.SHA3_384` (R175). -/
def execDigestSha3_384 (s : State) : Host.Outcome State Fault Refusal := digestSpongeCmd .sha3_384 s

/-- `DIGEST.SHA3_512` (R176). -/
def execDigestSha3_512 (s : State) : Host.Outcome State Fault Refusal := digestSpongeCmd .sha3_512 s

/-- `DIGEST.KECCAK224` (R177). -/
def execDigestKeccak224 (s : State) : Host.Outcome State Fault Refusal := digestSpongeCmd .keccak224 s

/-- `DIGEST.KECCAK256` (R178). -/
def execDigestKeccak256 (s : State) : Host.Outcome State Fault Refusal := digestSpongeCmd .keccak256 s

/-- `DIGEST.KECCAK384` (R179). -/
def execDigestKeccak384 (s : State) : Host.Outcome State Fault Refusal := digestSpongeCmd .keccak384 s

/-- `DIGEST.KECCAK512` (R180). -/
def execDigestKeccak512 (s : State) : Host.Outcome State Fault Refusal := digestSpongeCmd .keccak512 s

/-- `CLEAR` (R181). -/
def execClear (s : State) : Host.Outcome State Fault Refusal := clearCmd s

end Sys2Proof.Machine
end

