-- ==== Sys2Proof/Machine/Init.lean ====
section
/-! DEFINITION. The meanings of INIT: the engine file of the variant gets its IV; for a sponge, 25 zero lanes.
Each command has a definition of its own. -/

namespace Sys2Proof.Machine

/-- `INIT.MD5` (R75). -/
def execInitMd5 (s : State) : Host.Outcome State Fault Refusal := initMd .md5 s

/-- `INIT.SHA1` (R84). -/
def execInitSha1 (s : State) : Host.Outcome State Fault Refusal := initMd .sha1 s

/-- `INIT.SHA224` (R93). -/
def execInitSha224 (s : State) : Host.Outcome State Fault Refusal := initMd .sha224 s

/-- `INIT.SHA256` (R94). -/
def execInitSha256 (s : State) : Host.Outcome State Fault Refusal := initMd .sha256 s

/-- `INIT.SHA384` (R105). -/
def execInitSha384 (s : State) : Host.Outcome State Fault Refusal := initMd .sha384 s

/-- `INIT.SHA512` (R106). -/
def execInitSha512 (s : State) : Host.Outcome State Fault Refusal := initMd .sha512 s

/-- `INIT.SHA3_224` (R131). -/
def execInitSha3_224 (s : State) : Host.Outcome State Fault Refusal := initSponge s

/-- `INIT.SHA3_256` (R132). -/
def execInitSha3_256 (s : State) : Host.Outcome State Fault Refusal := initSponge s

/-- `INIT.SHA3_384` (R133). -/
def execInitSha3_384 (s : State) : Host.Outcome State Fault Refusal := initSponge s

/-- `INIT.SHA3_512` (R134). -/
def execInitSha3_512 (s : State) : Host.Outcome State Fault Refusal := initSponge s

/-- `INIT.KECCAK224` (R135). -/
def execInitKeccak224 (s : State) : Host.Outcome State Fault Refusal := initSponge s

/-- `INIT.KECCAK256` (R136). -/
def execInitKeccak256 (s : State) : Host.Outcome State Fault Refusal := initSponge s

/-- `INIT.KECCAK384` (R137). -/
def execInitKeccak384 (s : State) : Host.Outcome State Fault Refusal := initSponge s

/-- `INIT.KECCAK512` (R138). -/
def execInitKeccak512 (s : State) : Host.Outcome State Fault Refusal := initSponge s

end Sys2Proof.Machine
end

