-- ==== Sys2Proof/Machine/Pad.lean ====
section
/-! DEFINITION. The meanings of PAD: the Merkle–Damgård padder. Each command has a definition of its own. -/

namespace Sys2Proof.Machine

/-- `PAD.MD5` (R61). -/
def execPadMd5 (s : State) : Host.Outcome State Fault Refusal := padCmd .md5 s

/-- `PAD.SHA1` (R62). -/
def execPadSha1 (s : State) : Host.Outcome State Fault Refusal := padCmd .sha1 s

/-- `PAD.SHA224` (R63). -/
def execPadSha224 (s : State) : Host.Outcome State Fault Refusal := padCmd .sha224 s

/-- `PAD.SHA256` (R64). -/
def execPadSha256 (s : State) : Host.Outcome State Fault Refusal := padCmd .sha256 s

/-- `PAD.SHA384` (R65). -/
def execPadSha384 (s : State) : Host.Outcome State Fault Refusal := padCmd .sha384 s

/-- `PAD.SHA512` (R66). -/
def execPadSha512 (s : State) : Host.Outcome State Fault Refusal := padCmd .sha512 s

end Sys2Proof.Machine
end

