-- ==== Sys2Proof/Machine/Serialize.lean ====
section
/-! DEFINITION. The meanings of SERIALIZE: the engine file to DOUT. Each command has a definition of its own. -/

namespace Sys2Proof.Machine

/-- `SERIALIZE.MD5` (R77). -/
def execSerializeMd5 (s : State) : Host.Outcome State Fault Refusal := serializeCmd .md5 s

/-- `SERIALIZE.SHA1` (R86). -/
def execSerializeSha1 (s : State) : Host.Outcome State Fault Refusal := serializeCmd .sha1 s

/-- `SERIALIZE.SHA224` (R97). -/
def execSerializeSha224 (s : State) : Host.Outcome State Fault Refusal := serializeCmd .sha224 s

/-- `SERIALIZE.SHA256` (R98). -/
def execSerializeSha256 (s : State) : Host.Outcome State Fault Refusal := serializeCmd .sha256 s

/-- `SERIALIZE.SHA384` (R109). -/
def execSerializeSha384 (s : State) : Host.Outcome State Fault Refusal := serializeCmd .sha384 s

/-- `SERIALIZE.SHA512` (R110). -/
def execSerializeSha512 (s : State) : Host.Outcome State Fault Refusal := serializeCmd .sha512 s

end Sys2Proof.Machine
end

