-- ==== Sys2Proof/Machine/Sponge.lean ====
section
/-! DEFINITION. The meanings of PERMUTE, ABSORB, SPPAD and SQUEEZE: the permutation engine and the sponge
controller. Each command has a definition of its own. -/

namespace Sys2Proof.Machine

/-- `PERMUTE` (R118). -/
def execPermute (s : State) : Host.Outcome State Fault Refusal := permuteCmd s

/-- `ABSORB.SHA3_224 BLK` (R139). -/
def execAbsorbSha3_224Blk (s : State) : Host.Outcome State Fault Refusal := absorbCmd .sha3_224 .blk s

/-- `ABSORB.SHA3_256 BLK` (R140). -/
def execAbsorbSha3_256Blk (s : State) : Host.Outcome State Fault Refusal := absorbCmd .sha3_256 .blk s

/-- `ABSORB.SHA3_384 BLK` (R141). -/
def execAbsorbSha3_384Blk (s : State) : Host.Outcome State Fault Refusal := absorbCmd .sha3_384 .blk s

/-- `ABSORB.SHA3_512 BLK` (R142). -/
def execAbsorbSha3_512Blk (s : State) : Host.Outcome State Fault Refusal := absorbCmd .sha3_512 .blk s

/-- `ABSORB.KECCAK224 BLK` (R143). -/
def execAbsorbKeccak224Blk (s : State) : Host.Outcome State Fault Refusal := absorbCmd .keccak224 .blk s

/-- `ABSORB.KECCAK256 BLK` (R144). -/
def execAbsorbKeccak256Blk (s : State) : Host.Outcome State Fault Refusal := absorbCmd .keccak256 .blk s

/-- `ABSORB.KECCAK384 BLK` (R145). -/
def execAbsorbKeccak384Blk (s : State) : Host.Outcome State Fault Refusal := absorbCmd .keccak384 .blk s

/-- `ABSORB.KECCAK512 BLK` (R146). -/
def execAbsorbKeccak512Blk (s : State) : Host.Outcome State Fault Refusal := absorbCmd .keccak512 .blk s

/-- `ABSORB.SHA3_224 MSG` (R139). -/
def execAbsorbSha3_224Msg (s : State) : Host.Outcome State Fault Refusal := absorbCmd .sha3_224 .msg s

/-- `ABSORB.SHA3_256 MSG` (R140). -/
def execAbsorbSha3_256Msg (s : State) : Host.Outcome State Fault Refusal := absorbCmd .sha3_256 .msg s

/-- `ABSORB.SHA3_384 MSG` (R141). -/
def execAbsorbSha3_384Msg (s : State) : Host.Outcome State Fault Refusal := absorbCmd .sha3_384 .msg s

/-- `ABSORB.SHA3_512 MSG` (R142). -/
def execAbsorbSha3_512Msg (s : State) : Host.Outcome State Fault Refusal := absorbCmd .sha3_512 .msg s

/-- `ABSORB.KECCAK224 MSG` (R143). -/
def execAbsorbKeccak224Msg (s : State) : Host.Outcome State Fault Refusal := absorbCmd .keccak224 .msg s

/-- `ABSORB.KECCAK256 MSG` (R144). -/
def execAbsorbKeccak256Msg (s : State) : Host.Outcome State Fault Refusal := absorbCmd .keccak256 .msg s

/-- `ABSORB.KECCAK384 MSG` (R145). -/
def execAbsorbKeccak384Msg (s : State) : Host.Outcome State Fault Refusal := absorbCmd .keccak384 .msg s

/-- `ABSORB.KECCAK512 MSG` (R146). -/
def execAbsorbKeccak512Msg (s : State) : Host.Outcome State Fault Refusal := absorbCmd .keccak512 .msg s

/-- `ABSORB.SHA3_224 FB0` (R139). -/
def execAbsorbSha3_224Fb0 (s : State) : Host.Outcome State Fault Refusal := absorbCmd .sha3_224 .fb0 s

/-- `ABSORB.SHA3_256 FB0` (R140). -/
def execAbsorbSha3_256Fb0 (s : State) : Host.Outcome State Fault Refusal := absorbCmd .sha3_256 .fb0 s

/-- `ABSORB.SHA3_384 FB0` (R141). -/
def execAbsorbSha3_384Fb0 (s : State) : Host.Outcome State Fault Refusal := absorbCmd .sha3_384 .fb0 s

/-- `ABSORB.SHA3_512 FB0` (R142). -/
def execAbsorbSha3_512Fb0 (s : State) : Host.Outcome State Fault Refusal := absorbCmd .sha3_512 .fb0 s

/-- `ABSORB.KECCAK224 FB0` (R143). -/
def execAbsorbKeccak224Fb0 (s : State) : Host.Outcome State Fault Refusal := absorbCmd .keccak224 .fb0 s

/-- `ABSORB.KECCAK256 FB0` (R144). -/
def execAbsorbKeccak256Fb0 (s : State) : Host.Outcome State Fault Refusal := absorbCmd .keccak256 .fb0 s

/-- `ABSORB.KECCAK384 FB0` (R145). -/
def execAbsorbKeccak384Fb0 (s : State) : Host.Outcome State Fault Refusal := absorbCmd .keccak384 .fb0 s

/-- `ABSORB.KECCAK512 FB0` (R146). -/
def execAbsorbKeccak512Fb0 (s : State) : Host.Outcome State Fault Refusal := absorbCmd .keccak512 .fb0 s

/-- `SPPAD.SHA3_224` (R147). -/
def execSppadSha3_224 (s : State) : Host.Outcome State Fault Refusal := sppadCmd .sha3_224 s

/-- `SPPAD.SHA3_256` (R148). -/
def execSppadSha3_256 (s : State) : Host.Outcome State Fault Refusal := sppadCmd .sha3_256 s

/-- `SPPAD.SHA3_384` (R149). -/
def execSppadSha3_384 (s : State) : Host.Outcome State Fault Refusal := sppadCmd .sha3_384 s

/-- `SPPAD.SHA3_512` (R150). -/
def execSppadSha3_512 (s : State) : Host.Outcome State Fault Refusal := sppadCmd .sha3_512 s

/-- `SPPAD.KECCAK224` (R151). -/
def execSppadKeccak224 (s : State) : Host.Outcome State Fault Refusal := sppadCmd .keccak224 s

/-- `SPPAD.KECCAK256` (R152). -/
def execSppadKeccak256 (s : State) : Host.Outcome State Fault Refusal := sppadCmd .keccak256 s

/-- `SPPAD.KECCAK384` (R153). -/
def execSppadKeccak384 (s : State) : Host.Outcome State Fault Refusal := sppadCmd .keccak384 s

/-- `SPPAD.KECCAK512` (R154). -/
def execSppadKeccak512 (s : State) : Host.Outcome State Fault Refusal := sppadCmd .keccak512 s

/-- `SQUEEZE.SHA3_224` (R155). -/
def execSqueezeSha3_224 (s : State) : Host.Outcome State Fault Refusal := squeezeCmd .sha3_224 s

/-- `SQUEEZE.SHA3_256` (R156). -/
def execSqueezeSha3_256 (s : State) : Host.Outcome State Fault Refusal := squeezeCmd .sha3_256 s

/-- `SQUEEZE.SHA3_384` (R157). -/
def execSqueezeSha3_384 (s : State) : Host.Outcome State Fault Refusal := squeezeCmd .sha3_384 s

/-- `SQUEEZE.SHA3_512` (R158). -/
def execSqueezeSha3_512 (s : State) : Host.Outcome State Fault Refusal := squeezeCmd .sha3_512 s

/-- `SQUEEZE.KECCAK224` (R159). -/
def execSqueezeKeccak224 (s : State) : Host.Outcome State Fault Refusal := squeezeCmd .keccak224 s

/-- `SQUEEZE.KECCAK256` (R160). -/
def execSqueezeKeccak256 (s : State) : Host.Outcome State Fault Refusal := squeezeCmd .keccak256 s

/-- `SQUEEZE.KECCAK384` (R161). -/
def execSqueezeKeccak384 (s : State) : Host.Outcome State Fault Refusal := squeezeCmd .keccak384 s

/-- `SQUEEZE.KECCAK512` (R162). -/
def execSqueezeKeccak512 (s : State) : Host.Outcome State Fault Refusal := squeezeCmd .keccak512 s

end Sys2Proof.Machine
end

