-- ==== Sys2Proof/Machine/Dispatch.lean ====
section
/-! DEFINITION. exec: one arm for each constructor of Instr, each one call of its meaning. -/

namespace Sys2Proof.Machine

/-- The meaning of each command (R53; the rule of each stands at its meaning). -/
def exec (i : Instr) (s : State) : Host.Outcome State Fault Refusal :=
  match i with
  -- DIGEST
  | .digestMd5 => Sys2Proof.Machine.execDigestMd5 s
  | .digestSha1 => Sys2Proof.Machine.execDigestSha1 s
  | .digestSha224 => Sys2Proof.Machine.execDigestSha224 s
  | .digestSha256 => Sys2Proof.Machine.execDigestSha256 s
  | .digestSha384 => Sys2Proof.Machine.execDigestSha384 s
  | .digestSha512 => Sys2Proof.Machine.execDigestSha512 s
  | .digestSha3_224 => Sys2Proof.Machine.execDigestSha3_224 s
  | .digestSha3_256 => Sys2Proof.Machine.execDigestSha3_256 s
  | .digestSha3_384 => Sys2Proof.Machine.execDigestSha3_384 s
  | .digestSha3_512 => Sys2Proof.Machine.execDigestSha3_512 s
  | .digestKeccak224 => Sys2Proof.Machine.execDigestKeccak224 s
  | .digestKeccak256 => Sys2Proof.Machine.execDigestKeccak256 s
  | .digestKeccak384 => Sys2Proof.Machine.execDigestKeccak384 s
  | .digestKeccak512 => Sys2Proof.Machine.execDigestKeccak512 s
  -- INIT
  | .initMd5 => Sys2Proof.Machine.execInitMd5 s
  | .initSha1 => Sys2Proof.Machine.execInitSha1 s
  | .initSha224 => Sys2Proof.Machine.execInitSha224 s
  | .initSha256 => Sys2Proof.Machine.execInitSha256 s
  | .initSha384 => Sys2Proof.Machine.execInitSha384 s
  | .initSha512 => Sys2Proof.Machine.execInitSha512 s
  | .initSha3_224 => Sys2Proof.Machine.execInitSha3_224 s
  | .initSha3_256 => Sys2Proof.Machine.execInitSha3_256 s
  | .initSha3_384 => Sys2Proof.Machine.execInitSha3_384 s
  | .initSha3_512 => Sys2Proof.Machine.execInitSha3_512 s
  | .initKeccak224 => Sys2Proof.Machine.execInitKeccak224 s
  | .initKeccak256 => Sys2Proof.Machine.execInitKeccak256 s
  | .initKeccak384 => Sys2Proof.Machine.execInitKeccak384 s
  | .initKeccak512 => Sys2Proof.Machine.execInitKeccak512 s
  -- COMPRESS
  | .compressMd5Blk => Sys2Proof.Machine.execCompressMd5Blk s
  | .compressSha1Blk => Sys2Proof.Machine.execCompressSha1Blk s
  | .compressSha224Blk => Sys2Proof.Machine.execCompressSha224Blk s
  | .compressSha256Blk => Sys2Proof.Machine.execCompressSha256Blk s
  | .compressSha384Blk => Sys2Proof.Machine.execCompressSha384Blk s
  | .compressSha512Blk => Sys2Proof.Machine.execCompressSha512Blk s
  | .compressMd5Msg => Sys2Proof.Machine.execCompressMd5Msg s
  | .compressSha1Msg => Sys2Proof.Machine.execCompressSha1Msg s
  | .compressSha224Msg => Sys2Proof.Machine.execCompressSha224Msg s
  | .compressSha256Msg => Sys2Proof.Machine.execCompressSha256Msg s
  | .compressSha384Msg => Sys2Proof.Machine.execCompressSha384Msg s
  | .compressSha512Msg => Sys2Proof.Machine.execCompressSha512Msg s
  | .compressMd5Fb0 => Sys2Proof.Machine.execCompressMd5Fb0 s
  | .compressSha1Fb0 => Sys2Proof.Machine.execCompressSha1Fb0 s
  | .compressSha224Fb0 => Sys2Proof.Machine.execCompressSha224Fb0 s
  | .compressSha256Fb0 => Sys2Proof.Machine.execCompressSha256Fb0 s
  | .compressSha384Fb0 => Sys2Proof.Machine.execCompressSha384Fb0 s
  | .compressSha512Fb0 => Sys2Proof.Machine.execCompressSha512Fb0 s
  | .compressMd5Fb1 => Sys2Proof.Machine.execCompressMd5Fb1 s
  | .compressSha1Fb1 => Sys2Proof.Machine.execCompressSha1Fb1 s
  | .compressSha224Fb1 => Sys2Proof.Machine.execCompressSha224Fb1 s
  | .compressSha256Fb1 => Sys2Proof.Machine.execCompressSha256Fb1 s
  | .compressSha384Fb1 => Sys2Proof.Machine.execCompressSha384Fb1 s
  | .compressSha512Fb1 => Sys2Proof.Machine.execCompressSha512Fb1 s
  -- PAD
  | .padMd5 => Sys2Proof.Machine.execPadMd5 s
  | .padSha1 => Sys2Proof.Machine.execPadSha1 s
  | .padSha224 => Sys2Proof.Machine.execPadSha224 s
  | .padSha256 => Sys2Proof.Machine.execPadSha256 s
  | .padSha384 => Sys2Proof.Machine.execPadSha384 s
  | .padSha512 => Sys2Proof.Machine.execPadSha512 s
  -- SERIALIZE
  | .serializeMd5 => Sys2Proof.Machine.execSerializeMd5 s
  | .serializeSha1 => Sys2Proof.Machine.execSerializeSha1 s
  | .serializeSha224 => Sys2Proof.Machine.execSerializeSha224 s
  | .serializeSha256 => Sys2Proof.Machine.execSerializeSha256 s
  | .serializeSha384 => Sys2Proof.Machine.execSerializeSha384 s
  | .serializeSha512 => Sys2Proof.Machine.execSerializeSha512 s
  -- PERMUTE
  | .permute => Sys2Proof.Machine.execPermute s
  -- ABSORB
  | .absorbSha3_224Blk => Sys2Proof.Machine.execAbsorbSha3_224Blk s
  | .absorbSha3_256Blk => Sys2Proof.Machine.execAbsorbSha3_256Blk s
  | .absorbSha3_384Blk => Sys2Proof.Machine.execAbsorbSha3_384Blk s
  | .absorbSha3_512Blk => Sys2Proof.Machine.execAbsorbSha3_512Blk s
  | .absorbKeccak224Blk => Sys2Proof.Machine.execAbsorbKeccak224Blk s
  | .absorbKeccak256Blk => Sys2Proof.Machine.execAbsorbKeccak256Blk s
  | .absorbKeccak384Blk => Sys2Proof.Machine.execAbsorbKeccak384Blk s
  | .absorbKeccak512Blk => Sys2Proof.Machine.execAbsorbKeccak512Blk s
  | .absorbSha3_224Msg => Sys2Proof.Machine.execAbsorbSha3_224Msg s
  | .absorbSha3_256Msg => Sys2Proof.Machine.execAbsorbSha3_256Msg s
  | .absorbSha3_384Msg => Sys2Proof.Machine.execAbsorbSha3_384Msg s
  | .absorbSha3_512Msg => Sys2Proof.Machine.execAbsorbSha3_512Msg s
  | .absorbKeccak224Msg => Sys2Proof.Machine.execAbsorbKeccak224Msg s
  | .absorbKeccak256Msg => Sys2Proof.Machine.execAbsorbKeccak256Msg s
  | .absorbKeccak384Msg => Sys2Proof.Machine.execAbsorbKeccak384Msg s
  | .absorbKeccak512Msg => Sys2Proof.Machine.execAbsorbKeccak512Msg s
  | .absorbSha3_224Fb0 => Sys2Proof.Machine.execAbsorbSha3_224Fb0 s
  | .absorbSha3_256Fb0 => Sys2Proof.Machine.execAbsorbSha3_256Fb0 s
  | .absorbSha3_384Fb0 => Sys2Proof.Machine.execAbsorbSha3_384Fb0 s
  | .absorbSha3_512Fb0 => Sys2Proof.Machine.execAbsorbSha3_512Fb0 s
  | .absorbKeccak224Fb0 => Sys2Proof.Machine.execAbsorbKeccak224Fb0 s
  | .absorbKeccak256Fb0 => Sys2Proof.Machine.execAbsorbKeccak256Fb0 s
  | .absorbKeccak384Fb0 => Sys2Proof.Machine.execAbsorbKeccak384Fb0 s
  | .absorbKeccak512Fb0 => Sys2Proof.Machine.execAbsorbKeccak512Fb0 s
  -- SPPAD
  | .sppadSha3_224 => Sys2Proof.Machine.execSppadSha3_224 s
  | .sppadSha3_256 => Sys2Proof.Machine.execSppadSha3_256 s
  | .sppadSha3_384 => Sys2Proof.Machine.execSppadSha3_384 s
  | .sppadSha3_512 => Sys2Proof.Machine.execSppadSha3_512 s
  | .sppadKeccak224 => Sys2Proof.Machine.execSppadKeccak224 s
  | .sppadKeccak256 => Sys2Proof.Machine.execSppadKeccak256 s
  | .sppadKeccak384 => Sys2Proof.Machine.execSppadKeccak384 s
  | .sppadKeccak512 => Sys2Proof.Machine.execSppadKeccak512 s
  -- SQUEEZE
  | .squeezeSha3_224 => Sys2Proof.Machine.execSqueezeSha3_224 s
  | .squeezeSha3_256 => Sys2Proof.Machine.execSqueezeSha3_256 s
  | .squeezeSha3_384 => Sys2Proof.Machine.execSqueezeSha3_384 s
  | .squeezeSha3_512 => Sys2Proof.Machine.execSqueezeSha3_512 s
  | .squeezeKeccak224 => Sys2Proof.Machine.execSqueezeKeccak224 s
  | .squeezeKeccak256 => Sys2Proof.Machine.execSqueezeKeccak256 s
  | .squeezeKeccak384 => Sys2Proof.Machine.execSqueezeKeccak384 s
  | .squeezeKeccak512 => Sys2Proof.Machine.execSqueezeKeccak512 s
  -- CLEAR
  | .clear => Sys2Proof.Machine.execClear s

end Sys2Proof.Machine
end

