-- ==== Sys2Proof/Machine/HostAccess.lean ====
section
/-! DEFINITION. The host's accesses to registers and byte spaces (R17, R21, R28, R56). While `BUSY` = 1 only
`STATUS` may be read; every other access is refused (R200). -/

namespace Sys2Proof.Machine

/-- `RD reg` (R56): reading has no side effect on the CORE (R41); `STATUS` may be read at any time (R200). -/
def hostRead (reg : Nat) (s : State) : Host.Outcome State Fault Refusal :=
  if s.busy && !decide (regOfNumber reg = some .status) then .refused .accessWhileBusy
  else .next { s with readOut := .reg (readNumber s reg) }

/-- `WR reg, v` of a register other than `CMD` (R56): a write to an unassigned number is ignored (R21), a
value wider than the register is no access of this interface (U16). -/
def hostWrite (reg : Nat) (v : Word64) (s : State) : Host.Outcome State Fault Refusal :=
  if s.busy then .refused .accessWhileBusy
  else
    match regOfNumber reg with
    | none => .next s
    | some r => if v.toNat < 2 ^ regWidth r then .next (writeReg s r v) else .fault (.valueTooWide reg)

/-- `WRB space[i], b0 b1 ...` (R28, R56): every index written must lie in the space. -/
def hostWriteBytes (sp : Space) (i : Nat) (bs : List Byte) (s : State) : Host.Outcome State Fault Refusal :=
  if s.busy then .refused .accessWhileBusy
  else if bs = [] ∨ i + bs.length ≤ spaceSize s sp then .next (writeBytes sp s i bs)
  else .fault (.noSuchByte sp (max i (spaceSize s sp)))

/-- `RDB space[i..j)` (R28, R56): every index read must lie in the space. -/
def hostReadBytes (sp : Space) (i j : Nat) (s : State) : Host.Outcome State Fault Refusal :=
  if s.busy then .refused .accessWhileBusy
  else if j ≤ i ∨ j ≤ spaceSize s sp then
    .next { s with readOut := .bytes ((List.range (j - i)).map fun k => byteAt s sp (i + k)) }
  else .fault (.noSuchByte sp (max i (spaceSize s sp)))

end Sys2Proof.Machine
end

