-- ==== Sys2Proof/Machine/Issue.lean ====
section
/-! DEFINITION. A write of `CMD` (R22, R188), the busy interval (R188, R198, R200, R206), and one input from
outside. -/

namespace Sys2Proof.Machine

/-- A write of `w` to `CMD` whose busy interval is empty: the command runs as one transition, or is rejected
(R22, R42, R188). -/
def issue (w : Word32) (s : State) : Host.Outcome State Fault Refusal :=
  match decode w with
  | .ok i => exec i s
  | .error _ => illegalCommand s

/-- The accepted command begins: `BUSY` ← 1, `DONE` ← 0; `ERR` and `CODE` are 0, also for a CLEAR accepted
with `ERR` = 1 (R188, R200; C12 of spec/90_conflicts.md). -/
def beginCommand (i : Instr) (s : State) : State := { s with running := some i, done := false, rejected := none }

/-- A write of `w` to `CMD` whose busy interval is not empty: an accepted command leaves `BUSY` = 1, and its
effect comes when the interval ends; a rejection is immediate, `BUSY` stays 0 (R188, R189, R206). A command
is accepted exactly when its one transition completes with `DONE` = 1 (R23). -/
def issueLong (w : Word32) (s : State) : Host.Outcome State Fault Refusal :=
  match decode w with
  | .ok i =>
    match exec i s with
    | .next t => if t.done then .next (beginCommand i s) else .next t
    | o => o
  | .error _ => illegalCommand s

/-- `T_CMD` has passed: the command in progress has its effect, `BUSY` ← 0, `DONE` ← 1 (R188). With no command
in progress nothing happens (R197). -/
def busyEnds (s : State) : Host.Outcome State Fault Refusal :=
  match s.running with
  | some i => exec i { s with running := none }
  | none => .next s

/-- `WAIT`: reads `STATUS` until `BUSY` = 0, so `T_CMD`, which is finite, passes (R56, R206). -/
def hostWait (s : State) : Host.Outcome State Fault Refusal :=
  match busyEnds s with
  | .next t => .next { t with readOut := .reg ((statusWord t).setWidth 64) }
  | o => o

/-- `WR CMD, v`: issues the command word `v` (R22). -/
def writeCmd (v : Word64) (s : State) : Host.Outcome State Fault Refusal :=
  if s.busy then .refused .accessWhileBusy
  else if v.toNat < 2 ^ 32 then issue (v.setWidth 32) s
  else .fault (.valueTooWide 0)

/-- One input from outside (R56, R198, R206). -/
def hostStep (e : HostOp) (s : State) : Host.Outcome State Fault Refusal :=
  match e with
  | .wr reg v => if regOfNumber reg = some .cmd then writeCmd v s else hostWrite reg v s
  | .rd reg => hostRead reg s
  | .wrb sp i bs => hostWriteBytes sp i bs s
  | .rdb sp i j => hostReadBytes sp i j s
  | .issue w => issue w s
  | .issueLong w => issueLong w s
  | .wait => hostWait s
  | .busyEnds => busyEnds s
  | .reset => .next (resetEvent s)

/-- The input that runs a command word next (R22): the CMD write stands first, and no command is in
progress, for the write needs `BUSY` = 0 (R200). -/
def placeCommand (w : Word32) (s : State) : State :=
  { s with running := none, host := .issue w :: s.host }

end Sys2Proof.Machine
end

