-- ==== Sys2Proof/Machine/Step.lean ====
section
/-! DEFINITION. One step. The hardware fetches no instructions (R19, R47): what happens next comes from outside,
and the inputs to come stand in `host`, the oldest first (notes/assumptions/3.md). -/

namespace Sys2Proof.Machine

/-- One step: the next input is taken and has its effect (R44: inputs take effect one at a time, in order).
With no input left nothing comes from outside: a command in progress ends, an idle CORE stays as it is
(R197, R206). -/
def step (s : State) : Host.Outcome State Fault Refusal :=
  match s.host with
  | [] => busyEnds s
  | e :: rest => hostStep e { s with host := rest }

/-- `s` with the command word `w` as its next input, so that the very next step issues it (R22, R49: a command is
exactly one 32-bit word, so `nbits` plays no part; the bits above it are zero). -/
def State.withFetchWord (s : State) (_nbits w : Nat) : State := placeCommand (BitVec.ofNat 32 w) s

end Sys2Proof.Machine
end

