-- ==== Sys2Proof/Safety.lean ====
section
/-! DEFINITION. What the statements are written in: the accept check of R188 read off the fields of the command
word (independently of how each meaning checks), the engine files as the host reads them, and the invariant that
every step keeps. -/

namespace Sys2Proof

/-! ## The accept check, from the word's fields (R188) -/

/-- n of a command word: `bs` or `RATE` of its `ALG` code (R51, R52). -/
def Fields.blockBytes (f : Fields) : Nat :=
  [0, 64, 64, 0, 64, 64, 128, 128, 144, 136, 104, 72, 144, 136, 104, 72].getD f.alg.toNat 0

/-- "w reads MSG": `OPC` is DIGEST, PAD or SPPAD, or COMPRESS or ABSORB with `BSEL` = 1 (R188). -/
def Fields.readsMsg (f : Fields) : Bool :=
  decide (f.opc ∈ [0x1, 0x4, 0x8]) || (decide (f.opc ∈ [0x3, 0x7]) && decide (f.bsel = 1))

end Sys2Proof

namespace Sys2Proof.Machine

/-- What the accept check decides (R188). -/
inductive Verdict where
  | accept
  | locked
  | reject (c : RejectCode)
  deriving DecidableEq, Repr

/-- The accept check of R188 on a word written to `CMD` while `BUSY` = 0: its steps 1 to 6 in their order. -/
def verdict (w : Word32) (s : State) : Verdict :=
  let f := Fields.ofWord w
  if w = 0x0000000A then .accept
  else if s.err then .locked
  else if f.legal = false then .reject .illegal
  else if f.readsMsg ∧ s.msgCap.val < s.len.toNat then .reject .len
  else if f.bsel = 1 ∧ s.len.toNat < (s.blkidx.toNat + 1) * f.blockBytes then .reject .range
  else .accept

/-! ## What the statements read -/

/-- The command is one the lock and the busy interval do not refuse: `BUSY` = 0 and `ERR` = 0 (R188, R190,
R200). -/
def State.ready (s : State) : Prop := s.busy = false ∧ s.err = false

/-- The message fits the message space: `LEN` ≤ `MSG_CAP` (R186). -/
def State.lenOk (s : State) : Prop := s.len.toNat ≤ s.msgCap.val

/-- The first `n` bytes of a byte space, in index order (R28). -/
def spaceBytes (s : State) (sp : Space) (n : Nat) : List Byte := (List.range n).map (byteAt s sp)

/-- Two states agree on every byte of a byte space, read one byte at a time (R28). -/
def SameBytes (s t : State) (sp : Space) : Prop := ∀ a, byteAt t sp a = byteAt s sp a

/-- Two states agree on every engine file (R17). -/
def SameEngines (s t : State) : Prop :=
  t.md5 = s.md5 ∧ t.sha1 = s.sha1 ∧ t.s32 = s.s32 ∧ t.s64 = s.s64 ∧ t.kec = s.kec

/-- Two states agree on what no command touches: the parameter, the free value's counter, the inputs to come and
the last host read (the model's own fields). -/
def SameOutside (s t : State) : Prop :=
  t.msgCap = s.msgCap ∧ t.msgEpoch = s.msgEpoch ∧ t.host = s.host ∧ t.readOut = s.readOut

/-- A host program, each statement one input, run in order by the step (R44, R56). -/
def runInputs (ops : List HostOp) (s : State) : Host.Outcome State Fault Refusal :=
  ops.foldl (fun o e => match o with
    | .next t => step { t with host := [e] }
    | o => o) (.next s)

/-! ## The invariant -/

/-- What holds in every state a run can reach. -/
structure State.Inv (s : State) : Prop where
  /-- The message memory is in its canonical form (notes/assumptions/2.md). -/
  mem : Memory.wf s.msgCap.val s.msg
  /-- (`BUSY`, `DONE`, `ERR`) is one of the four combinations of R23: no two of them are 1. -/
  status : (s.busy && s.done) = false ∧ (s.busy && s.err) = false ∧ (s.done && s.err) = false
  /-- `DLEN` is 0 or an `OUTLEN` (R27). -/
  dlen : s.dlen.toNat ∈ [0, 16, 20, 28, 32, 48, 64]
  /-- `DOUT[DLEN..64)` is zero (R27). -/
  dout : ∀ i, s.dlen.toNat ≤ i → byteAt s .dout i = 0
  /-- `NFULL` and `REM` describe a message that fits `MSG_CAP` in blocks of at least 64 bytes (R26, R57). -/
  nfull : s.nfull.toNat * 64 + s.rem.toNat ≤ s.msgCap.val
  /-- `REM` is at most 143 (R26). -/
  rem : s.rem.toNat ≤ 143
  /-- `NEED2` = 1 only with a remainder that leaves no room for the suffix (R58). -/
  need2 : s.need2 = true → (56 ≤ s.rem.toNat ∧ s.rem.toNat ≤ 63) ∨ (112 ≤ s.rem.toNat ∧ s.rem.toNat ≤ 127)
  /-- `FB1` is zero unless a second final block is needed (R57, R129). -/
  fb1 : s.need2 = false → ∀ i, byteAt s .fb1 i = 0
  /-- The command in progress cannot fail any more (R13, R188). -/
  running : ∀ i, s.running = some i → ∃ t, exec i { s with running := none } = .next t ∧ t.done = true

end Sys2Proof.Machine
end

