-- ==== Sys2Proof/Certificates/Slice0/Obligations.lean ====
section
/-! DEFINITION. The statements for the provers. Each docstring names the rules of spec/ it rests on, and the
commands whose completion it states; the titles and the quoted sentences stand in OBLIGATIONS.json. `ready` is
`BUSY` = 0 and `ERR` = 0; a conclusion `exec i s = .next t` says that the command completes. -/

section
open Sys2Proof Sys2Proof.Machine

/-! ## Encoding -/

/-- Words written out from R55, R53 and R185: what they decode to, and some of the words R185 calls illegal. -/
def Obligations.WordsDecode : Prop :=
  decode 0x00000011 = .ok .digestMd5 ∧ decode 0x00000223 = .ok .compressSha1Fb0 ∧
  decode 0x00000197 = .ok .absorbSha3_256Msg ∧ decode 0x00000006 = .ok .permute ∧
  decode 0x0000000A = .ok .clear ∧ decode 0x00000092 = .ok .initSha3_256 ∧
  decode 0x00000074 = .ok .padSha512 ∧ decode 0x00000045 = .ok .serializeSha224 ∧
  decode 0x000000F8 = .ok .sppadKeccak512 ∧ decode 0x000000A9 = .ok .squeezeSha3_384 ∧
  decode 0x00000000 = .error .errIllegal ∧ decode 0x00000001 = .error .errIllegal ∧
  decode 0x00000031 = .error .errIllegal ∧ decode 0x00000083 = .error .errIllegal ∧
  decode 0x00000017 = .error .errIllegal ∧ decode 0x00000387 = .error .errIllegal ∧
  decode 0x00000111 = .error .errIllegal ∧ decode 0x00000016 = .error .errIllegal ∧
  decode 0x00000411 = .error .errIllegal ∧ decode 0xFFFFFFFF = .error .errIllegal

/-- Decoding and encoding agree on every word and every command: a word decodes to a command exactly when it is the
word the fields of R49, R50, R52 and R53 compose for it. -/
def Obligations.DecodeIsExactMatch : Prop :=
  ∀ (w : Word32) (i : Instr), decode w = .ok i ↔ w = encode i

/-- R54, whole: over all 2^32 words, the decoder refuses a word exactly when one of the eight conditions holds;
issued to a ready CORE such a word is rejected with `ERR_ILLEGAL` and has no other effect; the all-zero word and
the all-ones word are among them. -/
def Obligations.IllegalWords : Prop :=
  (∀ w : Word32, decode w = .error .errIllegal ↔
    let opc := w.extractLsb' 0 4
    let alg := w.extractLsb' 4 4
    let bsel := w.extractLsb' 8 2
    w.extractLsb' 10 22 ≠ 0 ∨ opc ∈ ([0x0, 0xB, 0xC, 0xD, 0xE, 0xF] : List (BitVec 4)) ∨
    (opc ∈ ([0x1, 0x2, 0x3, 0x4, 0x5, 0x7, 0x8, 0x9] : List (BitVec 4)) ∧ alg ∈ ([0x0, 0x3] : List (BitVec 4))) ∨
    (opc ∈ ([0x3, 0x4, 0x5] : List (BitVec 4)) ∧ 8 ≤ alg.toNat) ∨
    (opc ∈ ([0x7, 0x8, 0x9] : List (BitVec 4)) ∧ alg.toNat < 8) ∨
    (opc ∈ ([0x6, 0xA] : List (BitVec 4)) ∧ alg ≠ 0) ∨
    (opc ∉ ([0x3, 0x7] : List (BitVec 4)) ∧ bsel ≠ 0) ∨
    (opc = 0x7 ∧ bsel = 3)) ∧
  (∀ (w : Word32) (s : State), decode w = .error .errIllegal → s.ready →
    issue w s = .next { s with rejected := some .illegal, done := false }) ∧
  decode 0 = .error .errIllegal ∧ decode (BitVec.allOnes 32) = .error .errIllegal

/-! ## The step -/

/-- A step runs the decoded command (R22, R42, R47, R56): when the next input issues a word that decodes to `i`, as
`ISSUE w` or as a write of `CMD`, the step is `exec i`, and so after `withFetchWord`; an illegal word is
rejected; with no input and no command in progress nothing happens (R197). The model's choice, not the spec's
(notes/assumptions/3.md): that the inputs to come stand in a list of State, that `withFetchWord` puts a command
first and leaves no command in progress, and what a step is when the list is empty. -/
def Obligations.StepRunsCommand : Prop :=
  (∀ (s : State) (w : Word32) (i : Instr) (rest : List HostOp), decode w = .ok i → s.host = .issue w :: rest →
    step s = exec i { s with host := rest }) ∧
  (∀ (s : State) (v : Word64) (i : Instr) (rest : List HostOp), v.toNat < 2 ^ 32 →
    decode (v.setWidth 32) = .ok i → s.host = .wr 0x00 v :: rest → s.busy = false →
    step s = exec i { s with host := rest }) ∧
  (∀ (s : State) (nbits w : Nat) (i : Instr), decode (BitVec.ofNat 32 w) = .ok i →
    step (s.withFetchWord nbits w) = exec i { s with running := none }) ∧
  (∀ (s : State) (w : Word32) (rest : List HostOp), decode w = .error .errIllegal → s.host = .issue w :: rest →
    s.ready → step s = .next { s with host := rest, rejected := some .illegal, done := false }) ∧
  (∀ s : State, s.host = [] → s.busy = false → step s = .next s)

/-- The busy interval (R188, R200, R206, C12): issued with a busy interval, an accepted command shows exactly
`BUSY` = 1 in `STATUS`, which may be read, and when the interval ends, by itself or under `WAIT`, the state is
that of the one transition; a rejected command is rejected at once. Model's form: notes/assumptions/4.md. -/
def Obligations.BusyIntervalIsOneTransition : Prop :=
  ∀ (w : Word32) (s t : State), s.busy = false → issue w s = .next t →
    (t.done = true → ∃ u, issueLong w s = .next u ∧ statusWord u = 1 ∧
      hostRead 0x01 u = .next { u with readOut := .reg 1 } ∧ busyEnds u = .next t ∧
      hostWait u = .next { t with readOut := .reg 2 }) ∧
    (t.done = false → issueLong w s = .next t)

/-- R200: while `BUSY` = 1 every access but a read of `STATUS` is refused, a second `CMD` write among them; a
read of `STATUS` returns `BUSY` = 1, `DONE` = 0, `ERR` = 0, `CODE` = 0 (the premises on `DONE` and `ERR` are the
invariant's). -/
def Obligations.BusyRefusesAccess : Prop :=
  ∀ s : State, s.busy = true →
    (∀ reg v, hostStep (.wr reg v) s = .refused .accessWhileBusy) ∧
    (∀ reg, regOfNumber reg ≠ some .status → hostStep (.rd reg) s = .refused .accessWhileBusy) ∧
    (∀ sp i bs, hostStep (.wrb sp i bs) s = .refused .accessWhileBusy) ∧
    (∀ sp i j, hostStep (.rdb sp i j) s = .refused .accessWhileBusy) ∧
    (∀ w, hostStep (.issue w) s = .refused .accessWhileBusy ∧ hostStep (.issueLong w) s = .refused .accessWhileBusy) ∧
    (s.done = false → s.err = false → hostStep (.rd 0x01) s = .next { s with readOut := .reg 1 })

/-! ## Reset and the invariant -/

/-- R32: after reset every register reads 0 and every byte of BLK, FB0, FB1 and DOUT is 0; of MSG nothing is
known: every byte is the free value (notes/assumptions/2.md). -/
def Obligations.ResetState : Prop :=
  (∀ n : Nat, readNumber State.reset n = 0) ∧
  (∀ a : Nat, byteAt State.reset .blk a = 0 ∧ byteAt State.reset .fb0 a = 0 ∧ byteAt State.reset .fb1 a = 0 ∧
    byteAt State.reset .dout a = 0) ∧
  (∀ a : Nat, byteAt State.reset .msg a = Config.unspecifiedMsgByte State.reset.msgEpoch a) ∧
  State.reset.busy = false

/-- R198: reset may come at any time, also while a command runs; after it every register reads 0, every byte of
BLK, FB0, FB1 and DOUT is 0, nothing of MSG is known, and no command is in progress. That the parameter and the
inputs to come stay is the model's (notes/assumptions/10.md). -/
def Obligations.ResetEvent : Prop :=
  ∀ (s : State) (rest : List HostOp), s.host = .reset :: rest →
    ∃ t, step s = .next t ∧ (∀ n : Nat, readNumber t n = 0) ∧
      (∀ a : Nat, byteAt t .blk a = 0 ∧ byteAt t .fb0 a = 0 ∧ byteAt t .fb1 a = 0 ∧ byteAt t .dout a = 0) ∧
      (∀ a : Nat, byteAt t .msg a = Config.unspecifiedMsgByte t.msgEpoch a) ∧
      t.busy = false ∧ t.msgCap = s.msgCap ∧ t.host = rest ∧ t.msgEpoch = s.msgEpoch + 1

/-- The invariant holds at reset. -/
def Obligations.InvAtReset : Prop := State.reset.Inv

/-- Every step keeps the invariant: canonical message memory, the four status combinations of R23, `DLEN` and
the zero tail of DOUT (R27), the ranges of the padder's results (R26, R58), a zero FB1 without `NEED2`, and that
a command in progress cannot fail (R13). -/
def Obligations.InvKept : Prop :=
  ∀ s t : State, s.Inv → step s = .next t → t.Inv

/-- R23: over every step from a state with the invariant, the three flags the host reads are one of the four
combinations (0,0,0), (1,0,0), (0,1,0), (0,0,1), `CODE` is 0 exactly when `ERR` is 0, and every other bit of
`STATUS` is 0. -/
def Obligations.StatusCombinations : Prop :=
  ∀ s : State, s.Inv → statusWord s ∈ ([0x00, 0x01, 0x02, 0x14, 0x24, 0x34] : List Word32)

/-! ## Acceptance, rejection, the lock -/

/-- R13: no command stops the machine: while no command is in progress every one of the 106 commands answers a
next state, in which it has completed (`DONE` = 1, `ERR` = 0) or the CORE is in the error state (`DONE` = 0,
`ERR` = 1) and nothing but `STATUS` has changed. -/
def Obligations.EveryCommandAnswers : Prop :=
  ∀ (i : Instr) (s : State), s.busy = false →
    ∃ t, exec i s = .next t ∧ t.busy = false ∧
      ((t.done = true ∧ t.err = false) ∨
        (t.done = false ∧ t.err = true ∧ t = { s with done := false, rejected := t.rejected }))

/-- R188 and R191: the outcome of a `CMD` write is decided by the accept check in exactly the order of its
steps, for every 32-bit word, the check being read off the word's fields. -/
def Obligations.AcceptCheckOrder : Prop :=
  ∀ (w : Word32) (s : State), s.busy = false →
    (verdict w s = .locked → issue w s = .next { s with done := false }) ∧
    (∀ c, verdict w s = .reject c → issue w s = .next { s with rejected := some c, done := false }) ∧
    (verdict w s = .accept → ∃ t, issue w s = .next t ∧ t.done = true ∧ t.err = false ∧ t.busy = false)

/-- R189 with R190: whatever the command, a transition that does not complete has changed nothing but `STATUS`:
`DONE` is 0, and `ERR` and `CODE` are as before if `ERR` was 1, else they record one cause. -/
def Obligations.RejectionIsPrecise : Prop :=
  ∀ (i : Instr) (s t : State), exec i s = .next t → t.done = false →
    t = { s with done := false, rejected := t.rejected } ∧ t.err = true ∧ (s.err = true → t.rejected = s.rejected)

/-- R190: while `ERR` = 1 every word but CLEAR's, legal or illegal, is refused unexamined: `DONE` becomes 0 and
nothing else changes; and host reads and writes are not affected by the lock: each that completes without it
completes the same with it (a read of `STATUS` apart, which shows the lock). -/
def Obligations.ErrorLock : Prop :=
  (∀ (w : Word32) (s : State), s.busy = false → s.err = true → w ≠ 0x0000000A →
    issue w s = .next { s with done := false }) ∧
  (∀ (s t : State) (r : Option RejectCode),
    (∀ reg v, hostWrite reg v s = .next t → hostWrite reg v { s with rejected := r } = .next { t with rejected := r }) ∧
    (∀ reg, regOfNumber reg ≠ some .status → hostRead reg s = .next t →
      hostRead reg { s with rejected := r } = .next { t with rejected := r }) ∧
    (∀ sp i bs, hostWriteBytes sp i bs s = .next t →
      hostWriteBytes sp i bs { s with rejected := r } = .next { t with rejected := r }) ∧
    (∀ sp i j, hostReadBytes sp i j s = .next t →
      hostReadBytes sp i j { s with rejected := r } = .next { t with rejected := r }))

/-- R186: DIGEST, PAD, SPPAD and MSG-sourced COMPRESS and ABSORB with `LEN` > `MSG_CAP` are rejected with
`ERR_LEN`, with no other effect; the commands that do not read MSG ignore `LEN` and complete; and a `LEN` that
passes the check has a bit length below 2^64. -/
def Obligations.ErrLen : Prop :=
  (∀ s : State, s.ready → s.msgCap.val < s.len.toNat →
    (∀ a : MdAlg, ∀ i ∈ [Instr.digestMd a, Instr.pad a, Instr.compress a .msg],
      exec i s = .next { s with rejected := some .len, done := false }) ∧
    (∀ a : SpongeAlg, ∀ i ∈ [Instr.digestSponge a, Instr.sppad a, Instr.absorb a .msg],
      exec i s = .next { s with rejected := some .len, done := false })) ∧
  (∀ s : State, s.ready → ∀ i : Instr,
    (∃ a : MdAlg, i ∈ [Instr.initMd a, .serialize a, .compress a .blk, .compress a .fb0, .compress a .fb1]) ∨
      (∃ a : SpongeAlg, i ∈ [Instr.initSponge a, .squeeze a, .absorb a .blk, .absorb a .fb0]) ∨ i = .permute ∨ i = .clear →
    ∃ t, exec i s = .next t ∧ t.done = true) ∧
  (∀ s : State, s.lenOk → 8 * s.len.toNat < 2 ^ 64)

/-- R187: an MSG-sourced COMPRESS or ABSORB that passed the `ERR_LEN` check completes exactly when `BLKIDX` <
`LEN` div n, that is when `BLKIDX` names a full block, and is rejected with `ERR_RANGE` exactly when (`BLKIDX` +
1)·n > `LEN`, on unbounded integers. -/
def Obligations.ErrRange : Prop :=
  ∀ s : State, s.ready → s.lenOk →
    (∀ a : MdAlg,
      ((∃ t, exec (.compress a .msg) s = .next t ∧ t.done = true) ↔ s.blkidx.toNat < s.len.toNat / blockSize a) ∧
      (exec (.compress a .msg) s = .next { s with rejected := some .range, done := false } ↔
        s.len.toNat < (s.blkidx.toNat + 1) * blockSize a)) ∧
    (∀ a : SpongeAlg,
      ((∃ t, exec (.absorb a .msg) s = .next t ∧ t.done = true) ↔ s.blkidx.toNat < s.len.toNat / rate a) ∧
      (exec (.absorb a .msg) s = .next { s with rejected := some .range, done := false } ↔
        s.len.toNat < (s.blkidx.toNat + 1) * rate a))

/-! ## INIT -/

/-- INIT of the six Merkle–Damgård variants completes and loads the published IV (R68, R79, R88, R100; R75, R84,
R93, R94, R105, R106); nothing else changes. Completion of initMd5, initSha1, initSha224, initSha256,
initSha384, initSha512. -/
def Obligations.InitLoadsIv : Prop :=
  ∀ s : State, s.ready →
    exec .initMd5 s = .next { s with done := true, md5 := #v[0x67452301, 0xefcdab89, 0x98badcfe, 0x10325476] } ∧
    exec .initSha1 s = .next { s with
      done := true, sha1 := #v[0x67452301, 0xefcdab89, 0x98badcfe, 0x10325476, 0xc3d2e1f0] } ∧
    exec .initSha224 s = .next { s with
      done := true
      s32 := #v[0xc1059ed8, 0x367cd507, 0x3070dd17, 0xf70e5939, 0xffc00b31, 0x68581511, 0x64f98fa7, 0xbefa4fa4] } ∧
    exec .initSha256 s = .next { s with
      done := true
      s32 := #v[0x6a09e667, 0xbb67ae85, 0x3c6ef372, 0xa54ff53a, 0x510e527f, 0x9b05688c, 0x1f83d9ab, 0x5be0cd19] } ∧
    exec .initSha384 s = .next { s with
      done := true
      s64 := #v[0xcbbb9d5dc1059ed8, 0x629a292a367cd507, 0x9159015a3070dd17, 0x152fecd8f70e5939,
        0x67332667ffc00b31, 0x8eb44a8768581511, 0xdb0c2e0d64f98fa7, 0x47b5481dbefa4fa4] } ∧
    exec .initSha512 s = .next { s with
      done := true
      s64 := #v[0x6a09e667f3bcc908, 0xbb67ae8584caa73b, 0x3c6ef372fe94f82b, 0xa54ff53a5f1d36f1,
        0x510e527fade682d1, 0x9b05688c2b3e6c1f, 0x1f83d9abfb41bd6b, 0x5be0cd19137e2179] }

/-- INIT of the eight sponge variants completes and writes 25 zero lanes, whatever the variant (R120, R127);
nothing else changes. Completion of initSha3_224 to initKeccak512. -/
def Obligations.InitSpongeZero : Prop :=
  ∀ (a : SpongeAlg) (s : State), s.ready →
    ∃ A : Vector Word64 25, exec (.initSponge a) s = .next { s with kec := A, done := true } ∧ ∀ k : Fin 25, A[k] = 0

/-! ## COMPRESS -/

/-- COMPRESS from BLK, FB0 or FB1 completes whatever `LEN` and `BLKIDX` are, and puts into the variant's engine
file the compression of that file with the first `bs` bytes of the source; nothing else changes (R38, R76, R85,
R95, R96, R107, R108, R186). Completion of the 18 COMPRESS commands from BLK, FB0, FB1. -/
def Obligations.CompressBuffer : Prop :=
  ∀ (src : Src) (sp : Space), (src, sp) ∈ [(Src.blk, Space.blk), (.fb0, .fb0), (.fb1, .fb1)] →
    ∀ s : State, s.ready →
      exec (.compress .md5 src) s = .next { s with md5 := md5Compress s.md5 (spaceBytes s sp 64), done := true } ∧
      exec (.compress .sha1 src) s = .next { s with sha1 := sha1Compress s.sha1 (spaceBytes s sp 64), done := true } ∧
      (∀ a ∈ [MdAlg.sha224, .sha256],
        exec (.compress a src) s = .next { s with s32 := s32Compress s.s32 (spaceBytes s sp 64), done := true }) ∧
      (∀ a ∈ [MdAlg.sha384, .sha512],
        exec (.compress a src) s = .next { s with s64 := s64Compress s.s64 (spaceBytes s sp 128), done := true })

/-- COMPRESS from MSG with a full block of the message addressed completes and compresses `MSG[BLKIDX·bs ..
BLKIDX·bs+bs)`; `BLKIDX` does not increment and nothing else changes (R25, R38, R76, R85, R95, R96, R107, R108).
Completion of the 6 COMPRESS commands from MSG. -/
def Obligations.CompressMsg : Prop :=
  ∀ s : State, s.ready → s.lenOk →
    let block (bs : Nat) : List Byte := (List.range bs).map fun k => byteAt s .msg (s.blkidx.toNat * bs + k)
    ((s.blkidx.toNat + 1) * 64 ≤ s.len.toNat →
      exec (.compress .md5 .msg) s = .next { s with md5 := md5Compress s.md5 (block 64), done := true } ∧
      exec (.compress .sha1 .msg) s = .next { s with sha1 := sha1Compress s.sha1 (block 64), done := true } ∧
      (∀ a ∈ [MdAlg.sha224, .sha256],
        exec (.compress a .msg) s = .next { s with s32 := s32Compress s.s32 (block 64), done := true })) ∧
    ((s.blkidx.toNat + 1) * 128 ≤ s.len.toNat →
      ∀ a ∈ [MdAlg.sha384, .sha512],
        exec (.compress a .msg) s = .next { s with s64 := s64Compress s.s64 (block 128), done := true })

/-- The MD5 compression (R69 to R73): step i turns (a, b, c, d) into (d, b + rotl(a + f + K[i] + M[g[i]],
s[i]), b, c) with the round's function f, from the state, on the little-endian words of the block; 64 steps,
then the feed-forward. The 64 constants of R69 and the rotate amounts of R70 are written out. -/
def Obligations.Md5CompressSteps : Prop :=
  ∀ (H : Vector Word32 4) (B : List Byte), B.length = 64 →
    let K : List Word32 := List.flatten
      [[0xd76aa478, 0xe8c7b756, 0x242070db, 0xc1bdceee], [0xf57c0faf, 0x4787c62a, 0xa8304613, 0xfd469501],
       [0x698098d8, 0x8b44f7af, 0xffff5bb1, 0x895cd7be], [0x6b901122, 0xfd987193, 0xa679438e, 0x49b40821],
       [0xf61e2562, 0xc040b340, 0x265e5a51, 0xe9b6c7aa], [0xd62f105d, 0x02441453, 0xd8a1e681, 0xe7d3fbc8],
       [0x21e1cde6, 0xc33707d6, 0xf4d50d87, 0x455a14ed], [0xa9e3e905, 0xfcefa3f8, 0x676f02d9, 0x8d2a4c8a],
       [0xfffa3942, 0x8771f681, 0x6d9d6122, 0xfde5380c], [0xa4beea44, 0x4bdecfa9, 0xf6bb4b60, 0xbebfbc70],
       [0x289b7ec6, 0xeaa127fa, 0xd4ef3085, 0x04881d05], [0xd9d4d039, 0xe6db99e5, 0x1fa27cf8, 0xc4ac5665],
       [0xf4292244, 0x432aff97, 0xab9423a7, 0xfc93a039], [0x655b59c3, 0x8f0ccc92, 0xffeff47d, 0x85845dd1],
       [0x6fa87e4f, 0xfe2ce6e0, 0xa3014314, 0x4e0811a1], [0xf7537e82, 0xbd3af235, 0x2ad7d2bb, 0xeb86d391]]
    let S (i : Nat) : List Nat := if i ≤ 15 then [7, 12, 17, 22] else if i ≤ 31 then [5, 9, 14, 20]
      else if i ≤ 47 then [4, 11, 16, 23] else [6, 10, 15, 21]
    md5Rounds H B 0 = ⟨H[0], H[1], H[2], H[3]⟩ ∧
    (∀ i < 64,
      let v := md5Rounds H B i
      let f := if i ≤ 15 then (v.b &&& v.c) ||| (~~~v.b &&& v.d)
        else if i ≤ 31 then (v.b &&& v.d) ||| (v.c &&& ~~~v.d)
        else if i ≤ 47 then v.b ^^^ v.c ^^^ v.d
        else v.c ^^^ (v.b ||| ~~~v.d)
      let g := if i ≤ 15 then i else if i ≤ 31 then (5 * i + 1) % 16 else if i ≤ 47 then (3 * i + 5) % 16 else 7 * i % 16
      let M : Word32 := B.getD (4 * g + 3) 0 ++ B.getD (4 * g + 2) 0 ++ B.getD (4 * g + 1) 0 ++ B.getD (4 * g) 0
      md5Rounds H B (i + 1) =
        ⟨v.d, v.b + (v.a + f + K.getD i 0 + M).rotateLeft ((S i).getD (i % 4) 0), v.b, v.c⟩) ∧
    md5Compress H B =
      (let v := md5Rounds H B 64; #v[H[0] + v.a, H[1] + v.b, H[2] + v.c, H[3] + v.d])

/-- The SHA-1 compression (R80, R81, R82): the schedule's first 16 words are the block's big-endian words and
word t is rotl1 of the XOR of words t−3, t−8, t−14, t−16; step t is (rotl5 a + f + e + k + w[t], a, rotl30 b, c,
d) with the band's function and constant; 80 steps, then the feed-forward. -/
def Obligations.Sha1CompressSteps : Prop :=
  ∀ (H : Vector Word32 5) (B : List Byte), B.length = 64 →
    let w (t : Nat) : Word32 := (sha1Schedule B).getD t 0
    (∀ t < 16, w t = B.getD (4 * t) 0 ++ B.getD (4 * t + 1) 0 ++ B.getD (4 * t + 2) 0 ++ B.getD (4 * t + 3) 0) ∧
    (∀ t, 16 ≤ t → t < 80 → w t = (w (t - 3) ^^^ w (t - 8) ^^^ w (t - 14) ^^^ w (t - 16)).rotateLeft 1) ∧
    sha1Rounds H B 0 = ⟨H[0], H[1], H[2], H[3], H[4]⟩ ∧
    (∀ t < 80,
      let v := sha1Rounds H B t
      let f := if t < 20 then (v.b &&& v.c) ||| (~~~v.b &&& v.d)
        else if t < 40 then v.b ^^^ v.c ^^^ v.d
        else if t < 60 then (v.b &&& v.c) ||| (v.b &&& v.d) ||| (v.c &&& v.d)
        else v.b ^^^ v.c ^^^ v.d
      let k : Word32 := if t < 20 then 0x5a827999 else if t < 40 then 0x6ed9eba1 else if t < 60 then 0x8f1bbcdc
        else 0xca62c1d6
      sha1Rounds H B (t + 1) =
        ⟨v.a.rotateLeft 5 + f + v.e + k + w t, v.a, v.b.rotateLeft 30, v.c, v.d⟩) ∧
    sha1Compress H B =
      (let v := sha1Rounds H B 80; #v[H[0] + v.a, H[1] + v.b, H[2] + v.c, H[3] + v.d, H[4] + v.e])

/-- The 32-bit SHA-2 schedule and rounds (R89 to R91), the 64 constants of R89 and the rotates to the right
written out. -/
def Obligations.Sha2SmallCompressSteps : Prop :=
  ∀ (H : Vector Word32 8) (B : List Byte), B.length = 64 →
    let K : List Word32 := List.flatten
      [[0x428a2f98, 0x71374491, 0xb5c0fbcf, 0xe9b5dba5], [0x3956c25b, 0x59f111f1, 0x923f82a4, 0xab1c5ed5],
       [0xd807aa98, 0x12835b01, 0x243185be, 0x550c7dc3], [0x72be5d74, 0x80deb1fe, 0x9bdc06a7, 0xc19bf174],
       [0xe49b69c1, 0xefbe4786, 0x0fc19dc6, 0x240ca1cc], [0x2de92c6f, 0x4a7484aa, 0x5cb0a9dc, 0x76f988da],
       [0x983e5152, 0xa831c66d, 0xb00327c8, 0xbf597fc7], [0xc6e00bf3, 0xd5a79147, 0x06ca6351, 0x14292967],
       [0x27b70a85, 0x2e1b2138, 0x4d2c6dfc, 0x53380d13], [0x650a7354, 0x766a0abb, 0x81c2c92e, 0x92722c85],
       [0xa2bfe8a1, 0xa81a664b, 0xc24b8b70, 0xc76c51a3], [0xd192e819, 0xd6990624, 0xf40e3585, 0x106aa070],
       [0x19a4c116, 0x1e376c08, 0x2748774c, 0x34b0bcb5], [0x391c0cb3, 0x4ed8aa4a, 0x5b9cca4f, 0x682e6ff3],
       [0x748f82ee, 0x78a5636f, 0x84c87814, 0x8cc70208], [0x90befffa, 0xa4506ceb, 0xbef9a3f7, 0xc67178f2]]
    let W (t : Nat) : Word32 := (sha2Schedule unitS32 (wordsBe32 B)).getD t 0
    let V (n : Nat) := sha2Rounds unitS32 H (wordsBe32 B) n
    (∀ t < 16, W t = B.getD (4 * t) 0 ++ B.getD (4 * t + 1) 0 ++ B.getD (4 * t + 2) 0 ++ B.getD (4 * t + 3) 0) ∧
    (∀ t, 16 ≤ t → t < 64 →
      let x := W (t - 15)
      let y := W (t - 2)
      W t = (y.rotateRight 17 ^^^ y.rotateRight 19 ^^^ y >>> 10) + W (t - 7)
        + (x.rotateRight 7 ^^^ x.rotateRight 18 ^^^ x >>> 3) + W (t - 16)) ∧
    V 0 = ⟨H[0], H[1], H[2], H[3], H[4], H[5], H[6], H[7]⟩ ∧
    (∀ t < 64,
      let v := V t
      let T1 := v.h + (v.e.rotateRight 6 ^^^ v.e.rotateRight 11 ^^^ v.e.rotateRight 25)
        + ((v.e &&& v.f) ^^^ (~~~v.e &&& v.g)) + K.getD t 0 + W t
      let T2 := (v.a.rotateRight 2 ^^^ v.a.rotateRight 13 ^^^ v.a.rotateRight 22)
        + ((v.a &&& v.b) ^^^ (v.a &&& v.c) ^^^ (v.b &&& v.c))
      V (t + 1) = ⟨T1 + T2, v.a, v.b, v.c, v.d + T1, v.e, v.f, v.g⟩) ∧
    s32Compress H B =
      (let v := V 64; #v[H[0] + v.a, H[1] + v.b, H[2] + v.c, H[3] + v.d, H[4] + v.e, H[5] + v.f, H[6] + v.g, H[7] + v.h])

/-- The 64-bit SHA-2 schedule and rounds (R101 to R103), the 80 constants of R101 and the rotates to the right
written out. -/
def Obligations.Sha2LargeCompressSteps : Prop :=
  ∀ (H : Vector Word64 8) (B : List Byte), B.length = 128 →
    let K : List Word64 := List.flatten
      [[0x428a2f98d728ae22, 0x7137449123ef65cd, 0xb5c0fbcfec4d3b2f, 0xe9b5dba58189dbbc],
       [0x3956c25bf348b538, 0x59f111f1b605d019, 0x923f82a4af194f9b, 0xab1c5ed5da6d8118],
       [0xd807aa98a3030242, 0x12835b0145706fbe, 0x243185be4ee4b28c, 0x550c7dc3d5ffb4e2],
       [0x72be5d74f27b896f, 0x80deb1fe3b1696b1, 0x9bdc06a725c71235, 0xc19bf174cf692694],
       [0xe49b69c19ef14ad2, 0xefbe4786384f25e3, 0x0fc19dc68b8cd5b5, 0x240ca1cc77ac9c65],
       [0x2de92c6f592b0275, 0x4a7484aa6ea6e483, 0x5cb0a9dcbd41fbd4, 0x76f988da831153b5],
       [0x983e5152ee66dfab, 0xa831c66d2db43210, 0xb00327c898fb213f, 0xbf597fc7beef0ee4],
       [0xc6e00bf33da88fc2, 0xd5a79147930aa725, 0x06ca6351e003826f, 0x142929670a0e6e70],
       [0x27b70a8546d22ffc, 0x2e1b21385c26c926, 0x4d2c6dfc5ac42aed, 0x53380d139d95b3df],
       [0x650a73548baf63de, 0x766a0abb3c77b2a8, 0x81c2c92e47edaee6, 0x92722c851482353b],
       [0xa2bfe8a14cf10364, 0xa81a664bbc423001, 0xc24b8b70d0f89791, 0xc76c51a30654be30],
       [0xd192e819d6ef5218, 0xd69906245565a910, 0xf40e35855771202a, 0x106aa07032bbd1b8],
       [0x19a4c116b8d2d0c8, 0x1e376c085141ab53, 0x2748774cdf8eeb99, 0x34b0bcb5e19b48a8],
       [0x391c0cb3c5c95a63, 0x4ed8aa4ae3418acb, 0x5b9cca4f7763e373, 0x682e6ff3d6b2b8a3],
       [0x748f82ee5defb2fc, 0x78a5636f43172f60, 0x84c87814a1f0ab72, 0x8cc702081a6439ec],
       [0x90befffa23631e28, 0xa4506cebde82bde9, 0xbef9a3f7b2c67915, 0xc67178f2e372532b],
       [0xca273eceea26619c, 0xd186b8c721c0c207, 0xeada7dd6cde0eb1e, 0xf57d4f7fee6ed178],
       [0x06f067aa72176fba, 0x0a637dc5a2c898a6, 0x113f9804bef90dae, 0x1b710b35131c471b],
       [0x28db77f523047d84, 0x32caab7b40c72493, 0x3c9ebe0a15c9bebc, 0x431d67c49c100d4c],
       [0x4cc5d4becb3e42b6, 0x597f299cfc657e2a, 0x5fcb6fab3ad6faec, 0x6c44198c4a475817]]
    let W (t : Nat) : Word64 := (sha2Schedule unitS64 (wordsBe64 B)).getD t 0
    let V (n : Nat) := sha2Rounds unitS64 H (wordsBe64 B) n
    (∀ t < 16, W t = B.getD (8 * t) 0 ++ B.getD (8 * t + 1) 0 ++ B.getD (8 * t + 2) 0 ++ B.getD (8 * t + 3) 0 ++
      B.getD (8 * t + 4) 0 ++ B.getD (8 * t + 5) 0 ++ B.getD (8 * t + 6) 0 ++ B.getD (8 * t + 7) 0) ∧
    (∀ t, 16 ≤ t → t < 80 →
      let x := W (t - 15)
      let y := W (t - 2)
      W t = (y.rotateRight 19 ^^^ y.rotateRight 61 ^^^ y >>> 6) + W (t - 7)
        + (x.rotateRight 1 ^^^ x.rotateRight 8 ^^^ x >>> 7) + W (t - 16)) ∧
    V 0 = ⟨H[0], H[1], H[2], H[3], H[4], H[5], H[6], H[7]⟩ ∧
    (∀ t < 80,
      let v := V t
      let T1 := v.h + (v.e.rotateRight 14 ^^^ v.e.rotateRight 18 ^^^ v.e.rotateRight 41)
        + ((v.e &&& v.f) ^^^ (~~~v.e &&& v.g)) + K.getD t 0 + W t
      let T2 := (v.a.rotateRight 28 ^^^ v.a.rotateRight 34 ^^^ v.a.rotateRight 39)
        + ((v.a &&& v.b) ^^^ (v.a &&& v.c) ^^^ (v.b &&& v.c))
      V (t + 1) = ⟨T1 + T2, v.a, v.b, v.c, v.d + T1, v.e, v.f, v.g⟩) ∧
    s64Compress H B =
      (let v := V 80; #v[H[0] + v.a, H[1] + v.b, H[2] + v.c, H[3] + v.d, H[4] + v.e, H[5] + v.f, H[6] + v.g, H[7] + v.h])

/-! ## PAD -/

/-- PAD completes whenever `LEN` ≤ `MSG_CAP` and delivers `NFULL`, `REM`, `NEED2`, FB0 and FB1 as MDPad gives
them, the spaces zero beyond the blocks; nothing else changes (R36, R57, R60 to R66). Completion of padMd5,
padSha1, padSha224, padSha256, padSha384, padSha512. -/
def Obligations.PadDelivers : Prop :=
  ∀ (a : MdAlg) (s : State), s.ready → s.lenOk →
    let n := s.len.toNat
    let bs := blockSize a
    let sl := suffixSize a
    let rem := n % bs
    let tail : List Byte := (List.range rem).map fun k => byteAt s .msg (n / bs * bs + k)
    let sfx : List Byte := if a = .md5 then toLe (8 * n) 8 else toBe (8 * n) sl
    ∃ (f0 : Vector Byte 144) (f1 : Vector Byte 128),
      exec (.pad a) s = .next { s with
        done := true, nfull := BitVec.ofNat 64 (n / bs), rem := BitVec.ofNat 8 rem
        need2 := decide (bs - 1 - sl < rem), fb0 := f0, fb1 := f1 } ∧
      f0.toList = (if rem ≤ bs - 1 - sl then tail ++ [0x80] ++ zeros (bs - 1 - sl - rem) ++ sfx
        else tail ++ [0x80] ++ zeros (bs - 1 - rem)) ++ zeros (144 - bs) ∧
      f1.toList = (if rem ≤ bs - 1 - sl then zeros bs else zeros (bs - sl) ++ sfx) ++ zeros (128 - bs) ∧
      (BitVec.ofNat 64 (n / bs)).toNat = n / bs ∧ (BitVec.ofNat 8 rem).toNat = rem

/-- R58: after PAD, `NEED2` is 1 exactly for a remainder of 56 to 63 bytes with 64-byte blocks, or of 112 to 127
bytes with 128-byte blocks. -/
def Obligations.PadThreshold : Prop :=
  ∀ (a : MdAlg) (s t : State), s.ready → s.lenOk → exec (.pad a) s = .next t →
    (a ∈ [MdAlg.md5, .sha1, .sha224, .sha256] →
      t.rem.toNat = s.len.toNat % 64 ∧ (t.need2 = true ↔ 56 ≤ t.rem.toNat ∧ t.rem.toNat ≤ 63)) ∧
    (a ∈ [MdAlg.sha384, .sha512] →
      t.rem.toNat = s.len.toNat % 128 ∧ (t.need2 = true ↔ 112 ≤ t.rem.toNat ∧ t.rem.toNat ≤ 127))

/-- R59: PAD always succeeds while `LEN` ≤ `MSG_CAP`, the bit length fits the suffix, and the blocks a digest
consumes after it, read from MSG, FB0 and FB1, are together the message, the delimiter, z zero bytes and the suffix
of the original bit length; their total is a multiple of the block size, in `NFULL` + 1 + `NEED2` blocks, and no
smaller z has that property. -/
def Obligations.PaddedMessage : Prop :=
  ∀ (a : MdAlg) (s : State), s.ready → s.lenOk →
    ∃ t, exec (.pad a) s = .next t ∧ t.done = true ∧
      let n := s.len.toNat
      let bs := blockSize a
      let sfx : List Byte := if a = .md5 then toLe (8 * n) 8 else toBe (8 * n) (suffixSize a)
      let consumed := spaceBytes t .msg (t.nfull.toNat * bs) ++ spaceBytes t .fb0 bs ++
        (if t.need2 then spaceBytes t .fb1 bs else [])
      8 * n < 2 ^ 64 ∧
      ∃ z, consumed = spaceBytes s .msg n ++ [0x80] ++ zeros z ++ sfx ∧
        consumed.length = (t.nfull.toNat + 1 + t.need2.toNat) * bs ∧
        (∀ z', (n + 1 + z' + suffixSize a) % bs = 0 → z ≤ z')

/-! ## SERIALIZE and SQUEEZE -/

/-- SERIALIZE completes and delivers the engine file's bytes, truncated to `OUTLEN`, with the rest of DOUT zero
and `DLEN` = `OUTLEN`; nothing else changes. Byte k of DOUT is byte k mod w of word k div w, little-endian for
MD5 and big-endian for the others (R35, R77, R86, R97, R98, R109, R110). Completion of serializeMd5,
serializeSha1, serializeSha224, serializeSha256, serializeSha384, serializeSha512. -/
def Obligations.SerializeDelivers : Prop :=
  ∀ s : State, s.ready →
    (∃ d : Vector Byte 64, exec .serializeMd5 s = .next { s with done := true, dout := d, dlen := 16 } ∧
      ∀ k : Fin 64, d[k] = if h : k.val < 16 then (s.md5[k.val / 4]).extractLsb' (8 * (k.val % 4)) 8 else 0) ∧
    (∃ d : Vector Byte 64, exec .serializeSha1 s = .next { s with done := true, dout := d, dlen := 20 } ∧
      ∀ k : Fin 64, d[k] = if h : k.val < 20 then (s.sha1[k.val / 4]).extractLsb' (8 * (3 - k.val % 4)) 8 else 0) ∧
    (∃ d : Vector Byte 64, exec .serializeSha224 s = .next { s with done := true, dout := d, dlen := 28 } ∧
      ∀ k : Fin 64, d[k] = if h : k.val < 28 then (s.s32[k.val / 4]).extractLsb' (8 * (3 - k.val % 4)) 8 else 0) ∧
    (∃ d : Vector Byte 64, exec .serializeSha256 s = .next { s with done := true, dout := d, dlen := 32 } ∧
      ∀ k : Fin 64, d[k] = if h : k.val < 32 then (s.s32[k.val / 4]).extractLsb' (8 * (3 - k.val % 4)) 8 else 0) ∧
    (∃ d : Vector Byte 64, exec .serializeSha384 s = .next { s with done := true, dout := d, dlen := 48 } ∧
      ∀ k : Fin 64, d[k] = if h : k.val < 48 then (s.s64[k.val / 8]).extractLsb' (8 * (7 - k.val % 8)) 8 else 0) ∧
    (∃ d : Vector Byte 64, exec .serializeSha512 s = .next { s with done := true, dout := d, dlen := 64 } ∧
      ∀ k : Fin 64, d[k] = (s.s64[k.val / 8]).extractLsb' (8 * (7 - k.val % 8)) 8)

/-- SQUEEZE completes and delivers the first `OUTLEN` bytes of the lanes, little-endian, with the rest of DOUT
zero and `DLEN` = `OUTLEN`; no permutation runs and nothing else changes (R34, R125, R130, R155 to R162).
Completion of squeezeSha3_224 to squeezeKeccak512. -/
def Obligations.SqueezeDelivers : Prop :=
  ∀ (a : SpongeAlg) (out : Nat),
    (a, out) ∈ [(SpongeAlg.sha3_224, 28), (.sha3_256, 32), (.sha3_384, 48), (.sha3_512, 64),
      (.keccak224, 28), (.keccak256, 32), (.keccak384, 48), (.keccak512, 64)] →
    ∀ s : State, s.ready →
      ∃ d : Vector Byte 64,
        exec (.squeeze a) s = .next { s with done := true, dout := d, dlen := BitVec.ofNat 8 out } ∧
        ∀ k : Fin 64, d[k] = if k.val < out then (s.kec[k.val / 8]).extractLsb' (8 * (k.val % 8)) 8 else 0

/-! ## PERMUTE and ABSORB -/

/-- PERMUTE completes and runs the permutation over the 25 lanes; nothing else changes (R116, R118). Completion
of permute. -/
def Obligations.PermuteCompletes : Prop :=
  ∀ s : State, s.ready → exec .permute s = .next { s with kec := keccakF s.kec, done := true }

/-- The Keccak round (R113, R115): θ, then ρ and π (lane (x, y), rotated left by r, goes to lane y + 5((2x + 3y)
mod 5), the 25 amounts of R113 written out), then χ, then ι, each from the complete output of the step before;
lane (x, y) is lane x + 5y; the model's tables are that wiring and those amounts, and p is a permutation of
0..24. -/
def Obligations.KeccakRoundSteps : Prop :=
  ∀ (A : Lanes) (rc : Word64), A.length = 25 →
    let C (x : Nat) : Word64 :=
      lane A x ^^^ lane A (x + 5) ^^^ lane A (x + 10) ^^^ lane A (x + 15) ^^^ lane A (x + 20)
    let p (x y : Nat) : Nat := y + 5 * ((2 * x + 3 * y) % 5)
    let r : List Nat := List.flatten
      [[0, 1, 62, 28, 27], [36, 44, 6, 55, 20], [3, 10, 43, 25, 39], [41, 45, 15, 21, 8], [18, 2, 61, 56, 14]]
    let T := keccakTheta A
    let B := keccakRhoPi T
    let E := keccakChi B
    (∀ i < 25, lane T i = lane A i ^^^ (C ((i % 5 + 4) % 5) ^^^ (C ((i % 5 + 1) % 5)).rotateLeft 1)) ∧
    (∀ x < 5, ∀ y < 5, lane B (p x y) = (lane T (x + 5 * y)).rotateLeft (r.getD (x + 5 * y) 0)) ∧
    (∀ x < 5, ∀ y < 5, lane E (x + 5 * y) =
      lane B (x + 5 * y) ^^^ (~~~ lane B ((x + 1) % 5 + 5 * y) &&& lane B ((x + 2) % 5 + 5 * y))) ∧
    keccakRound A rc = E.set 0 (lane E 0 ^^^ rc) ∧ (keccakRound A rc).length = 25 ∧
    (∀ x < 5, ∀ y < 5, keccakP.getD (x + 5 * y) 0 = p x y) ∧ keccakR = r ∧
    (∀ j < 25, ∃ i < 25, keccakP.getD i 0 = j)

/-- The permutation is 24 rounds (R116): it starts from the lanes it is given, and round n uses entry n of the 24
constants of R114, written out; it has no other input. From the zero state round 0 leaves 1 in lane 0 and 0 in
every other lane (R117). -/
def Obligations.KeccakFRounds : Prop :=
  let RC : List Word64 := List.flatten
    [[0x0000000000000001, 0x0000000000008082, 0x800000000000808a, 0x8000000080008000],
     [0x000000000000808b, 0x0000000080000001, 0x8000000080008081, 0x8000000000008009],
     [0x000000000000008a, 0x0000000000000088, 0x0000000080008009, 0x000000008000000a],
     [0x000000008000808b, 0x800000000000008b, 0x8000000000008089, 0x8000000000008003],
     [0x8000000000008002, 0x8000000000000080, 0x000000000000800a, 0x800000008000000a],
     [0x8000000080008081, 0x8000000000008080, 0x0000000080000001, 0x8000000080008008]]
  (∀ A : Vector Word64 25, (keccakF A).toList = keccakRounds 24 A.toList) ∧
  (∀ A : Lanes, keccakRounds 0 A = A) ∧
  (∀ (n : Nat) (A : Lanes), n < 24 → keccakRounds (n + 1) A = keccakRound (keccakRounds n A) (RC.getD n 0)) ∧
  keccakRounds 1 (List.replicate 25 0) = 1 :: List.replicate 24 0

/-- ABSORB from BLK or FB0 completes whatever `LEN` and `BLKIDX` are: the block's `RATE`/8 little-endian lanes
are XORed into the first lanes, the capacity lanes receive nothing, then the permutation runs; nothing else
changes (R34, R38, R121, R128, R139 to R146). Completion of the 16 ABSORB commands from BLK and FB0. -/
def Obligations.AbsorbBuffer : Prop :=
  ∀ (src : SpongeSrc) (sp : Space), (src, sp) ∈ [(SpongeSrc.blk, Space.blk), (.fb0, .fb0)] →
    ∀ (a : SpongeAlg) (s : State), s.ready →
      ∃ X : Vector Word64 25,
        exec (.absorb a src) s = .next { s with kec := keccakF X, done := true } ∧
        ∀ i : Fin 25, X[i] = if i.val < rate a / 8
          then s.kec[i] ^^^ (byteAt s sp (8 * i + 7) ++ byteAt s sp (8 * i + 6) ++ byteAt s sp (8 * i + 5) ++
            byteAt s sp (8 * i + 4) ++ byteAt s sp (8 * i + 3) ++ byteAt s sp (8 * i + 2) ++
            byteAt s sp (8 * i + 1) ++ byteAt s sp (8 * i))
          else s.kec[i]

/-- ABSORB from MSG with a full block of the message addressed completes and absorbs `MSG[BLKIDX·RATE ..
BLKIDX·RATE+RATE)`; `BLKIDX` does not increment and nothing else changes (R25, R38, R121, R128, R139 to R146).
Completion of the 8 ABSORB commands from MSG. -/
def Obligations.AbsorbMsg : Prop :=
  ∀ (a : SpongeAlg) (s : State), s.ready → s.lenOk → (s.blkidx.toNat + 1) * rate a ≤ s.len.toNat →
    let b (k : Nat) : Byte := byteAt s .msg (s.blkidx.toNat * rate a + k)
    ∃ X : Vector Word64 25,
      exec (.absorb a .msg) s = .next { s with kec := keccakF X, done := true } ∧
      ∀ i : Fin 25, X[i] = if i.val < rate a / 8
        then s.kec[i] ^^^ (b (8 * i + 7) ++ b (8 * i + 6) ++ b (8 * i + 5) ++ b (8 * i + 4) ++ b (8 * i + 3) ++
          b (8 * i + 2) ++ b (8 * i + 1) ++ b (8 * i))
        else s.kec[i]

/-! ## SPPAD -/

/-- SPPAD completes whenever `LEN` ≤ `MSG_CAP` and delivers one final block: the remainder, `DOMAIN` at the
first unused byte, 0x80 in the last byte, the two combined when they are one byte; FB0 is zero beyond the block,
FB1 is zero, `NEED2` = 0; nothing else changes (R122, R129, R147 to R154). Completion of sppadSha3_224 to
sppadKeccak512. -/
def Obligations.SppadDelivers : Prop :=
  ∀ (a : SpongeAlg) (s : State), s.ready → s.lenOk →
    let n := s.len.toNat
    let r := rate a
    let rem := n % r
    let dom : Byte := if a ∈ [SpongeAlg.sha3_224, .sha3_256, .sha3_384, .sha3_512] then 0x06 else 0x01
    let tail : List Byte := (List.range rem).map fun k => byteAt s .msg (n / r * r + k)
    ∃ (f0 : Vector Byte 144) (f1 : Vector Byte 128),
      exec (.sppad a) s = .next { s with
        done := true, nfull := BitVec.ofNat 64 (n / r), rem := BitVec.ofNat 8 rem, need2 := false
        fb0 := f0, fb1 := f1 } ∧
      f0.toList = (if rem = r - 1 then tail ++ [dom ^^^ 0x80]
        else tail ++ [dom] ++ zeros (r - 2 - rem) ++ [0x80]) ++ zeros (144 - r) ∧
      f1.toList = zeros 128 ∧
      (BitVec.ofNat 64 (n / r)).toNat = n / r ∧ (BitVec.ofNat 8 rem).toNat = rem

/-- R123: with a remainder of `RATE` − 1 the last byte of the block is 0x86 for SHA-3 and 0x81 for legacy
Keccak; with a shorter one the first unused byte is `DOMAIN` and the last byte 0x80. -/
def Obligations.SpongeCombinedByte : Prop :=
  ∀ (a : SpongeAlg) (s t : State), s.ready → s.lenOk → exec (.sppad a) s = .next t →
    let sha3 : Bool := decide (a ∈ [SpongeAlg.sha3_224, .sha3_256, .sha3_384, .sha3_512])
    (s.len.toNat % rate a = rate a - 1 →
      byteAt t .fb0 (rate a - 1) = (if sha3 then 0x86 else 0x81)) ∧
    (s.len.toNat % rate a ≤ rate a - 2 →
      byteAt t .fb0 (s.len.toNat % rate a) = (if sha3 then 0x06 else 0x01) ∧ byteAt t .fb0 (rate a - 1) = 0x80)

/-! ## DIGEST -/

/-- DIGEST of a Merkle–Damgård variant completes whenever `LEN` ≤ `MSG_CAP`: the digest, `OUTLEN` bytes, stands
in DOUT with zeros after it, `DLEN` = `OUTLEN`, and the engine file used, FB0, FB1, `NFULL` and `PADST` are
zero; everything else is unchanged (R163, R167 to R172). Completion of digestMd5, digestSha1, digestSha224,
digestSha256, digestSha384, digestSha512. What the digest is, Obligations.DigestEqualsUnits says. -/
def Obligations.DigestMdCompletes : Prop :=
  ∀ (a : MdAlg) (s : State), s.ready → s.lenOk →
    ∃ d : List Byte, d.length = mdOutLen a ∧ ∃ D : Vector Byte 64, D.toList = d ++ zeros (64 - mdOutLen a) ∧
      let t : State := { s with
        done := true, dout := D, dlen := BitVec.ofNat 8 (mdOutLen a), nfull := 0, rem := 0, need2 := false
        fb0 := Vector.replicate 144 0, fb1 := Vector.replicate 128 0 }
      exec (.digestMd a) s = .next (match a with
        | .md5 => { t with md5 := Vector.replicate 4 0 }
        | .sha1 => { t with sha1 := Vector.replicate 5 0 }
        | .sha224 => { t with s32 := Vector.replicate 8 0 }
        | .sha256 => { t with s32 := Vector.replicate 8 0 }
        | .sha384 => { t with s64 := Vector.replicate 8 0 }
        | .sha512 => { t with s64 := Vector.replicate 8 0 })

/-- DIGEST of a sponge variant completes whenever `LEN` ≤ `MSG_CAP`, likewise, with `KEC.A` zero afterwards
(R165, R173 to R180). Completion of digestSha3_224 to digestKeccak512. What the digest is,
Obligations.SpongeDigestEqualsUnits says. -/
def Obligations.DigestSpongeCompletes : Prop :=
  ∀ (a : SpongeAlg) (s : State), s.ready → s.lenOk →
    ∃ d : List Byte, d.length = spongeOutLen a ∧ ∃ D : Vector Byte 64, D.toList = d ++ zeros (64 - spongeOutLen a) ∧
      exec (.digestSponge a) s = .next { s with
        done := true, dout := D, dlen := BitVec.ofNat 8 (spongeOutLen a), nfull := 0, rem := 0, need2 := false
        fb0 := Vector.replicate 144 0, fb1 := Vector.replicate 128 0, kec := Vector.replicate 25 0 }

/-- R164: DIGEST of a Merkle–Damgård variant leaves DOUT and `DLEN` exactly as the unit-level program INIT, PAD,
COMPRESS of every full block in ascending order, COMPRESS of FB0, COMPRESS of FB1 if `NEED2`, SERIALIZE does; both
complete, and DIGEST's state is the program's but for the zeroized engine file, FB0, FB1, `NFULL` and `PADST`, and
`BLKIDX`, which DIGEST leaves untouched. -/
def Obligations.DigestEqualsUnits : Prop :=
  ∀ (a : MdAlg) (s : State), s.ready → s.lenOk →
    ∃ t, exec (.digestMd a) s = .next t ∧ t.done = true ∧
      ∃ p, runInputs [.issue (encode (.initMd a)), .issue (encode (.pad a))] s = .next p ∧
        ∃ u, runInputs
          ((List.range p.nfull.toNat).flatMap (fun i =>
              [.wr 0x03 (BitVec.ofNat 64 i), .issue (encode (.compress a .msg))]) ++
            [.issue (encode (.compress a .fb0))] ++
            (if p.need2 then [.issue (encode (.compress a .fb1))] else []) ++
            [.issue (encode (.serialize a))]) p = .next u ∧
        u.done = true ∧ t.dout = u.dout ∧ t.dlen = u.dlen ∧
        t = { zeroPad (zeroFile a u) with blkidx := s.blkidx, host := s.host }

/-- R165: DIGEST of a sponge variant leaves DOUT and `DLEN` exactly as the unit-level program INIT, SPPAD,
ABSORB of every full block in ascending order, ABSORB of FB0, SQUEEZE does; both complete, and DIGEST's state is
the program's but for the zeroization and `BLKIDX`. -/
def Obligations.SpongeDigestEqualsUnits : Prop :=
  ∀ (a : SpongeAlg) (s : State), s.ready → s.lenOk →
    ∃ t, exec (.digestSponge a) s = .next t ∧ t.done = true ∧
      ∃ p, runInputs [.issue (encode (.initSponge a)), .issue (encode (.sppad a))] s = .next p ∧
        ∃ u, runInputs
          ((List.range p.nfull.toNat).flatMap (fun i =>
              [.wr 0x03 (BitVec.ofNat 64 i), .issue (encode (.absorb a .msg))]) ++
            [.issue (encode (.absorb a .fb0)), .issue (encode (.squeeze a))]) p = .next u ∧
        u.done = true ∧ t.dout = u.dout ∧ t.dlen = u.dlen ∧
        t = { zeroPad u with kec := keccakZero, blkidx := s.blkidx, host := s.host }

/-- R166: the result of a DIGEST depends only on `LEN`, `MSG[0..LEN)` and the algorithm: two states that agree
on these, and on nothing else, get the same DOUT and `DLEN`. In particular the bytes beyond `LEN` never
influence it. -/
def Obligations.DigestDependsOnMessageOnly : Prop :=
  ∀ s s' : State, s.ready → s'.ready → s.lenOk → s'.lenOk → s'.len = s.len →
    (∀ k < s.len.toNat, byteAt s' .msg k = byteAt s .msg k) →
    (∀ a : MdAlg, ∃ t t', exec (.digestMd a) s = .next t ∧ exec (.digestMd a) s' = .next t' ∧
      t'.dout = t.dout ∧ t'.dlen = t.dlen) ∧
    (∀ a : SpongeAlg, ∃ t t', exec (.digestSponge a) s = .next t ∧ exec (.digestSponge a) s' = .next t' ∧
      t'.dout = t.dout ∧ t'.dlen = t.dlen)

/-- R166, truncation: SERIALIZE of SHA-224 gives the first 28 bytes of what SERIALIZE of SHA-256 gives on the
same `S32.H`, and SERIALIZE of SHA-384 the first 48 of the 64 bytes on the same `S64.H` (R97, R109, C5). -/
def Obligations.TruncationIsFirstBytes : Prop :=
  ∀ s : State, s.ready →
    ∃ t28 t32 t48 t64, exec .serializeSha224 s = .next t28 ∧ exec .serializeSha256 s = .next t32 ∧
      exec .serializeSha384 s = .next t48 ∧ exec .serializeSha512 s = .next t64 ∧
      spaceBytes t28 .dout 28 = (spaceBytes t32 .dout 32).take 28 ∧
      spaceBytes t48 .dout 48 = (spaceBytes t64 .dout 64).take 48

/-! ## CLEAR -/

/-- R181: CLEAR completes whenever `BUSY` = 0, also with `ERR` = 1 and whatever `LEN` is; afterwards the state
is the reset state in everything except `DONE` = 1 and MSG, which is kept (with the model's own fields).
Completion of clear. -/
def Obligations.ClearCompletes : Prop :=
  ∀ s : State, s.busy = false →
    exec .clear s = .next { State.reset with
      done := true, msg := s.msg, msgCap := s.msgCap, msgEpoch := s.msgEpoch, host := s.host, readOut := s.readOut }

/-! ## Frames -/

/-- Frame of INIT, COMPRESS, PERMUTE and ABSORB (R31): whenever one answers a next state, every byte of the five
byte spaces, `LEN`, `BLKIDX`, `NFULL`, `PADST`, `DLEN` and every engine file but the command's own are
unchanged; they store nothing. -/
def Obligations.EngineCommandsFrame : Prop :=
  ∀ s t : State,
    (∀ i : Instr, (∃ a, i = .initMd a) ∨ (∃ a, i = .initSponge a) ∨ (∃ a src, i = .compress a src) ∨ i = .permute ∨
        (∃ a src, i = .absorb a src) → exec i s = .next t →
      (∀ sp, SameBytes s t sp) ∧ SameOutside s t ∧ t.busy = s.busy ∧
      t.len = s.len ∧ t.blkidx = s.blkidx ∧ t.nfull = s.nfull ∧ t.rem = s.rem ∧ t.need2 = s.need2 ∧ t.dlen = s.dlen) ∧
    (∀ (a : MdAlg) (i : Instr), i = .initMd a ∨ (∃ src, i = .compress a src) → exec i s = .next t →
      (a ≠ .md5 → t.md5 = s.md5) ∧ (a ≠ .sha1 → t.sha1 = s.sha1) ∧ (a ∉ [MdAlg.sha224, .sha256] → t.s32 = s.s32) ∧
      (a ∉ [MdAlg.sha384, .sha512] → t.s64 = s.s64) ∧ t.kec = s.kec) ∧
    (∀ i : Instr, (∃ a, i = .initSponge a) ∨ i = .permute ∨ (∃ a src, i = .absorb a src) → exec i s = .next t →
      t.md5 = s.md5 ∧ t.sha1 = s.sha1 ∧ t.s32 = s.s32 ∧ t.s64 = s.s64)

/-- Frame of PAD and SPPAD (R31, R39): they store to FB0 and FB1 only; MSG, BLK and DOUT, every engine file,
`LEN`, `BLKIDX` and `DLEN` are unchanged. -/
def Obligations.PadderCommandsFrame : Prop :=
  ∀ (s t : State) (i : Instr), (∃ a, i = .pad a) ∨ (∃ a, i = .sppad a) → exec i s = .next t →
    SameBytes s t .msg ∧ SameBytes s t .blk ∧ SameBytes s t .dout ∧ SameEngines s t ∧ SameOutside s t ∧
    t.busy = s.busy ∧ t.len = s.len ∧ t.blkidx = s.blkidx ∧ t.dlen = s.dlen

/-- Frame of SERIALIZE and SQUEEZE (R31, R39): they store to DOUT and write `DLEN` only; the other four spaces,
every engine file and the other registers are unchanged. -/
def Obligations.OutputCommandsFrame : Prop :=
  ∀ (s t : State) (i : Instr), (∃ a, i = .serialize a) ∨ (∃ a, i = .squeeze a) → exec i s = .next t →
    (∀ sp, sp ≠ .dout → SameBytes s t sp) ∧ SameEngines s t ∧ SameOutside s t ∧ t.busy = s.busy ∧
    t.len = s.len ∧ t.blkidx = s.blkidx ∧ t.nfull = s.nfull ∧ t.rem = s.rem ∧ t.need2 = s.need2

/-- Frame of DIGEST (R31, R163, R165, R203): `LEN`, `BLKIDX`, every byte of MSG and of BLK and the four engine
files that the variant does not select are unchanged. -/
def Obligations.DigestFrame : Prop :=
  ∀ s t : State,
    (∀ a : MdAlg, exec (.digestMd a) s = .next t →
      SameBytes s t .msg ∧ SameBytes s t .blk ∧ SameOutside s t ∧ t.busy = s.busy ∧ t.len = s.len ∧
      t.blkidx = s.blkidx ∧ (a ≠ .md5 → t.md5 = s.md5) ∧ (a ≠ .sha1 → t.sha1 = s.sha1) ∧
      (a ∉ [MdAlg.sha224, .sha256] → t.s32 = s.s32) ∧ (a ∉ [MdAlg.sha384, .sha512] → t.s64 = s.s64) ∧ t.kec = s.kec) ∧
    (∀ a : SpongeAlg, exec (.digestSponge a) s = .next t →
      SameBytes s t .msg ∧ SameBytes s t .blk ∧ SameOutside s t ∧ t.busy = s.busy ∧ t.len = s.len ∧
      t.blkidx = s.blkidx ∧ t.md5 = s.md5 ∧ t.sha1 = s.sha1 ∧ t.s32 = s.s32 ∧ t.s64 = s.s64)

/-- R24, R25, R28, R39 over all commands: no command writes MSG; no command but CLEAR writes `LEN`, `BLKIDX` or
BLK, so `BLKIDX` does not auto-increment. -/
def Obligations.OperandsKeptByCommands : Prop :=
  ∀ (i : Instr) (s t : State), exec i s = .next t →
    SameBytes s t .msg ∧ (i ≠ .clear → t.len = s.len ∧ t.blkidx = s.blkidx ∧ SameBytes s t .blk)

/-- MSG over whole steps (R28, R41, R198): a step changes a byte of MSG only when the input is a host write of
bytes to MSG or reset, and no step changes `MSG_CAP`. -/
def Obligations.MsgWrittenByHostOnly : Prop :=
  ∀ s t : State, step s = .next t →
    t.msgCap = s.msgCap ∧
    (SameBytes s t .msg ∨ (∃ i bs rest, s.host = .wrb .msg i bs :: rest) ∨ ∃ rest, s.host = .reset :: rest)

/-! ## Host accesses -/

/-- R17, R21, R56: while idle a host read of any register number returns what the number reads as and changes
nothing else: the register of that number, zero-extended, and 0 for `CMD` and for unassigned numbers (`STATUS`,
`PADST` and `DLEN`: StatusRegisterBits). A host write of a writable register completes, a read of the number then
returns the value, and every other register keeps its value; read-only registers, `NFULL` with all its 64 bits
among them, and unassigned numbers ignore a write. The widths are those of R17 and R21. That the value read is
kept in `readOut` is the model's (notes/assumptions/7.md), as is that a register number has no bound (12.md). -/
def Obligations.RegisterAccess : Prop :=
  ∀ s : State, s.busy = false →
    (∀ n : Nat, hostStep (.rd n) s = .next { s with readOut := .reg (readNumber s n) }) ∧
    (readNumber s 0x00 = 0 ∧ readNumber s 0x02 = s.len ∧ readNumber s 0x03 = s.blkidx ∧ readNumber s 0x04 = s.nfull ∧
      (∀ i : Fin 4, readNumber s (0x10 + i) = s.md5[i].setWidth 64) ∧
      (∀ i : Fin 5, readNumber s (0x18 + i) = s.sha1[i].setWidth 64) ∧
      (∀ i : Fin 8, readNumber s (0x20 + i) = s.s32[i].setWidth 64) ∧
      (∀ i : Fin 8, readNumber s (0x30 + i) = s.s64[i]) ∧ (∀ i : Fin 25, readNumber s (0x40 + i) = s.kec[i])) ∧
    (∀ (n : Nat) (r : RegName) (v : Word64), regOfNumber n = some r → v.toNat < 2 ^ regWidth r →
      r ∉ [RegName.cmd, .status, .nfull, .padst, .dlen] →
      ∃ t, hostStep (.wr n v) s = .next t ∧ readNumber t n = v ∧ (∀ m, m ≠ n → readNumber t m = readNumber s m) ∧
        (∀ sp, SameBytes s t sp) ∧ SameOutside s t) ∧
    (∀ (n : Nat) (r : RegName), regOfNumber n = some r →
      regWidth r = if n ∈ [0x02, 0x03, 0x04] ∨ 0x30 ≤ n then 64 else 32) ∧
    (∀ (n : Nat) (v : Word64), n ∈ [0x01, 0x05, 0x06] → v.toNat < 2 ^ 32 → hostStep (.wr n v) s = .next s) ∧
    (∀ v : Word64, hostStep (.wr 0x04 v) s = .next s) ∧
    (∀ (n : Nat) (v : Word64), regOfNumber n = none → hostStep (.wr n v) s = .next s ∧ readNumber s n = 0) ∧
    (∀ n : Nat, regOfNumber n = none ↔ (0x07 ≤ n ∧ n ≤ 0x0F) ∨ (0x14 ≤ n ∧ n ≤ 0x17) ∨ (0x1D ≤ n ∧ n ≤ 0x1F) ∨
      (0x28 ≤ n ∧ n ≤ 0x2F) ∨ (0x38 ≤ n ∧ n ≤ 0x3F) ∨ 0x59 ≤ n)

/-- R28, R56: while idle a host write of bytes that lie in MSG or BLK completes, and afterwards each byte
written reads as written, every other byte of every space reads as before and no register has changed; a write
to FB0, FB1 or DOUT is ignored; a read returns the bytes and changes nothing else. -/
def Obligations.ByteAccess : Prop :=
  ∀ (s : State) (sp : Space) (i : Nat) (bs : List Byte), s.busy = false → i + bs.length ≤ spaceSize s sp →
    (sp ∈ [Space.msg, .blk] → ∃ t, hostStep (.wrb sp i bs) s = .next t ∧
      (∀ a, byteAt t sp a = if i ≤ a ∧ a < i + bs.length then bs.getD (a - i) 0 else byteAt s sp a) ∧
      (∀ sp', sp' ≠ sp → SameBytes s t sp') ∧ (∀ n, readNumber t n = readNumber s n) ∧ SameOutside s t) ∧
    (sp ∈ [Space.fb0, .fb1, .dout] → hostStep (.wrb sp i bs) s = .next s) ∧
    (∀ j, j ≤ spaceSize s sp → hostStep (.rdb sp i j) s = .next { s with
      readOut := .bytes ((List.range (j - i)).map fun k => byteAt s sp (i + k)) })

/-- The stops on accesses the interface cannot express (R28, U16; notes/assumptions/6.md): while idle a read or
write of at least one byte that runs beyond the size of the space, and a write of a value wider than the
register, fault; nothing of them is done. -/
def Obligations.HostAccessFaults : Prop :=
  ∀ s : State, s.busy = false →
    (∀ (sp : Space) (i : Nat) (bs : List Byte), bs ≠ [] → spaceSize s sp < i + bs.length →
      ∃ k, hostStep (.wrb sp i bs) s = .fault (.noSuchByte sp k) ∧ spaceSize s sp ≤ k ∧ k < i + bs.length) ∧
    (∀ (sp : Space) (i j : Nat), i < j → spaceSize s sp < j →
      ∃ k, hostStep (.rdb sp i j) s = .fault (.noSuchByte sp k) ∧ spaceSize s sp ≤ k ∧ k < j) ∧
    (∀ (n : Nat) (r : RegName) (v : Word64), regOfNumber n = some r → 2 ^ regWidth r ≤ v.toNat →
      hostStep (.wr n v) s = .fault (.valueTooWide n))

/-- R21, R23: bit by bit, what a read of `STATUS`, `PADST` and `DLEN` returns. -/
def Obligations.StatusRegisterBits : Prop :=
  ∀ s : State,
    readNumber s 0x01 = (BitVec.ofBool s.busy).setWidth 64 ||| (BitVec.ofBool s.done).setWidth 64 <<< 1 |||
      (BitVec.ofBool s.err).setWidth 64 <<< 2 |||
      (match s.rejected with | none => 0 | some .illegal => 0x10 | some .len => 0x20 | some .range => 0x30) ∧
    readNumber s 0x05 = s.rem.setWidth 64 ||| (BitVec.ofBool s.need2).setWidth 64 <<< 8 ∧
    readNumber s 0x06 = s.dlen.setWidth 64

/-- The message memory is canonical data (notes/assumptions/2.md, the model's form): in states with the
invariant two host writes of one byte of MSG at different indexes give the same state in either order, and of
two at one index the second alone is left. -/
def Obligations.ByteWritesCommute : Prop :=
  ∀ (s t t' : State) (i j : Nat) (b c : Byte), s.Inv → s.busy = false →
    hostWriteBytes .msg i [b] s = .next t → hostWriteBytes .msg j [c] s = .next t' →
    (i ≠ j → hostWriteBytes .msg j [c] t = hostWriteBytes .msg i [b] t') ∧
    (i = j → hostWriteBytes .msg j [c] t = .next t')

end
end

