-- ==== Sys2Proof/Laws/Bytes.lean ====
section
/-! SUPPORT. Byte sequences: lengths, single bytes, and the two readings (R7, R8), and what a whole-space write
and a message read hold (R28, R39). -/

namespace Sys2Proof.Machine

@[simp] theorem length_zeros (n : Nat) : (zeros n).length = n := by simp [zeros]

@[simp] theorem length_toLe (v n : Nat) : (toLe v n).length = n := by
  induction n generalizing v with
  | zero => rfl
  | succ n ih => simp [toLe, ih]

@[simp] theorem length_toBe (v n : Nat) : (toBe v n).length = n := by simp [toBe]

/-- Byte k of a little-endian sequence (R8). -/
theorem getElem_toLe (v n k : Nat) (h : k < (toLe v n).length) :
    (toLe v n)[k] = BitVec.ofNat 8 (v / 256 ^ k) := by
  induction n generalizing v k with
  | zero => simp at h
  | succ n ih =>
    cases k with
    | zero => simp [toLe]
    | succ k =>
      simp only [toLe, List.getElem_cons_succ]
      rw [ih, Nat.div_div_eq_div_mul, Nat.pow_succ, Nat.mul_comm]

/-- Byte k of a big-endian sequence (R8). -/
theorem getElem_toBe (v n k : Nat) (h : k < (toBe v n).length) :
    (toBe v n)[k] = BitVec.ofNat 8 (v / 256 ^ (n - 1 - k)) := by
  simp only [toBe, List.getElem_reverse, getElem_toLe, length_toLe]

/-- The little-endian reading inverts `to_le` (R8). -/
theorem leNat_toLe (v n : Nat) : leNat (toLe v n) = v % 256 ^ n := by
  induction n generalizing v with
  | zero => simp [toLe, leNat, Nat.mod_one]
  | succ n ih =>
    simp only [toLe, leNat, ih, BitVec.toNat_ofNat]
    rw [show 256 ^ (n + 1) = 256 * 256 ^ n by rw [Nat.pow_succ, Nat.mul_comm], Nat.mod_mul]

/-- The big-endian reading inverts `to_be` (R8). -/
theorem beNat_toBe (v n : Nat) : beNat (toBe v n) = v % 256 ^ n := by
  simp [beNat, toBe, leNat_toLe]

/-- A little-endian reading fits its bytes (R8). -/
theorem leNat_lt (s : List Byte) : leNat s < 256 ^ s.length := by
  induction s with
  | nil => simp [leNat]
  | cons b s ih =>
    have hb : b.toNat < 256 := b.isLt
    simp only [leNat, List.length_cons, Nat.pow_succ]
    omega

/-- `to_le` inverts the little-endian reading (R8). -/
theorem toLe_leNat (s : List Byte) : toLe (leNat s) s.length = s := by
  induction s with
  | nil => rfl
  | cons b s ih =>
    have hb : b.toNat < 256 := b.isLt
    have h1 : (b.toNat + 256 * leNat s) / 256 = leNat s := by omega
    have h2 : BitVec.ofNat 8 (b.toNat + 256 * leNat s) = b := by
      apply BitVec.eq_of_toNat_eq
      simp only [BitVec.toNat_ofNat]
      omega
    simp [leNat, toLe, h1, h2, ih]

/-- A whole space after a write of a sequence that fits it (R28). -/
theorem toList_fillSpace (n : Nat) (s : List Byte) (h : s.length ≤ n) :
    (fillSpace n s).toList = s ++ zeros (n - s.length) := by
  apply List.ext_getElem
  · simp; omega
  · intro i h1 h2
    simp only [fillSpace, Vector.getElem_toList, Vector.getElem_ofFn]
    by_cases hi : i < s.length
    · simp [List.getElem_append_left hi, hi]
    · rw [List.getElem_append_right (by omega)]
      simp [zeros, hi]

/-- One byte of a space after a whole-space write (R28). -/
theorem getD_fillSpace (n : Nat) (s : List Byte) (h : s.length ≤ n) (i : Nat) :
    (fillSpace n s).toList.getD i 0 = s.getD i 0 := by
  rw [toList_fillSpace n s h]
  by_cases hi : i < s.length
  · simp [List.getElem?_append_left hi]
  · by_cases hn : i < n
    · simp [List.getElem?_append_right (Nat.le_of_not_lt hi), zeros, hi,
        show i - s.length < n - s.length by omega]
    · simp [List.getElem?_append_right (Nat.le_of_not_lt hi), zeros, hi,
        show ¬ i - s.length < n - s.length by omega]

@[simp] theorem length_msgRead (s : State) (a n : Nat) : (msgRead s a n).length = n := by simp [msgRead]

@[simp] theorem getElem_msgRead (s : State) (a n k : Nat) (h : k < (msgRead s a n).length) :
    (msgRead s a n)[k] = msgByte s (a + k) := by simp [msgRead]

/-- Two adjacent message reads are one (R8). -/
theorem msgRead_append (s : State) (a m n : Nat) :
    msgRead s a m ++ msgRead s (a + m) n = msgRead s a (m + n) := by
  simp only [msgRead, List.range_add, List.map_append, List.map_map]
  congr 2
  funext k
  simp [Nat.add_assoc]

/-- A message read depends on the bytes it reads only. -/
theorem msgRead_congr {s t : State} {a n : Nat} (h : ∀ k, k < n → msgByte t (a + k) = msgByte s (a + k)) :
    msgRead t a n = msgRead s a n := by
  simp only [msgRead]
  exact List.map_congr_left fun k hk => h k (List.mem_range.1 hk)

end Sys2Proof.Machine
end

