-- ==== Sys2Proof/Laws/Families.lean ====
section
/-! SUPPORT. The 106 commands by family: one case principle over the ten naming functions of Syntax.lean, and
for each family the shared operation its meanings are one line over. Everything about "every command" is proved
through these. -/

namespace Sys2Proof

/-- A property of every command, family by family. -/
theorem Instr.familyCases {P : Instr → Prop}
    (digestMd : ∀ a, P (.digestMd a)) (digestSponge : ∀ a, P (.digestSponge a))
    (initMd : ∀ a, P (.initMd a)) (initSponge : ∀ a, P (.initSponge a))
    (compress : ∀ a src, P (.compress a src)) (pad : ∀ a, P (.pad a))
    (serialize : ∀ a, P (.serialize a)) (permute : P .permute)
    (absorb : ∀ a src, P (.absorb a src)) (sppad : ∀ a, P (.sppad a))
    (squeeze : ∀ a, P (.squeeze a)) (clear : P .clear) : ∀ i, P i := by
  intro i
  cases i with
  | digestMd5 => exact digestMd .md5
  | digestSha1 => exact digestMd .sha1
  | digestSha224 => exact digestMd .sha224
  | digestSha256 => exact digestMd .sha256
  | digestSha384 => exact digestMd .sha384
  | digestSha512 => exact digestMd .sha512
  | digestSha3_224 => exact digestSponge .sha3_224
  | digestSha3_256 => exact digestSponge .sha3_256
  | digestSha3_384 => exact digestSponge .sha3_384
  | digestSha3_512 => exact digestSponge .sha3_512
  | digestKeccak224 => exact digestSponge .keccak224
  | digestKeccak256 => exact digestSponge .keccak256
  | digestKeccak384 => exact digestSponge .keccak384
  | digestKeccak512 => exact digestSponge .keccak512
  | initMd5 => exact initMd .md5
  | initSha1 => exact initMd .sha1
  | initSha224 => exact initMd .sha224
  | initSha256 => exact initMd .sha256
  | initSha384 => exact initMd .sha384
  | initSha512 => exact initMd .sha512
  | initSha3_224 => exact initSponge .sha3_224
  | initSha3_256 => exact initSponge .sha3_256
  | initSha3_384 => exact initSponge .sha3_384
  | initSha3_512 => exact initSponge .sha3_512
  | initKeccak224 => exact initSponge .keccak224
  | initKeccak256 => exact initSponge .keccak256
  | initKeccak384 => exact initSponge .keccak384
  | initKeccak512 => exact initSponge .keccak512
  | compressMd5Blk => exact compress .md5 .blk
  | compressSha1Blk => exact compress .sha1 .blk
  | compressSha224Blk => exact compress .sha224 .blk
  | compressSha256Blk => exact compress .sha256 .blk
  | compressSha384Blk => exact compress .sha384 .blk
  | compressSha512Blk => exact compress .sha512 .blk
  | compressMd5Msg => exact compress .md5 .msg
  | compressSha1Msg => exact compress .sha1 .msg
  | compressSha224Msg => exact compress .sha224 .msg
  | compressSha256Msg => exact compress .sha256 .msg
  | compressSha384Msg => exact compress .sha384 .msg
  | compressSha512Msg => exact compress .sha512 .msg
  | compressMd5Fb0 => exact compress .md5 .fb0
  | compressSha1Fb0 => exact compress .sha1 .fb0
  | compressSha224Fb0 => exact compress .sha224 .fb0
  | compressSha256Fb0 => exact compress .sha256 .fb0
  | compressSha384Fb0 => exact compress .sha384 .fb0
  | compressSha512Fb0 => exact compress .sha512 .fb0
  | compressMd5Fb1 => exact compress .md5 .fb1
  | compressSha1Fb1 => exact compress .sha1 .fb1
  | compressSha224Fb1 => exact compress .sha224 .fb1
  | compressSha256Fb1 => exact compress .sha256 .fb1
  | compressSha384Fb1 => exact compress .sha384 .fb1
  | compressSha512Fb1 => exact compress .sha512 .fb1
  | padMd5 => exact pad .md5
  | padSha1 => exact pad .sha1
  | padSha224 => exact pad .sha224
  | padSha256 => exact pad .sha256
  | padSha384 => exact pad .sha384
  | padSha512 => exact pad .sha512
  | serializeMd5 => exact serialize .md5
  | serializeSha1 => exact serialize .sha1
  | serializeSha224 => exact serialize .sha224
  | serializeSha256 => exact serialize .sha256
  | serializeSha384 => exact serialize .sha384
  | serializeSha512 => exact serialize .sha512
  | permute => exact permute
  | absorbSha3_224Blk => exact absorb .sha3_224 .blk
  | absorbSha3_256Blk => exact absorb .sha3_256 .blk
  | absorbSha3_384Blk => exact absorb .sha3_384 .blk
  | absorbSha3_512Blk => exact absorb .sha3_512 .blk
  | absorbKeccak224Blk => exact absorb .keccak224 .blk
  | absorbKeccak256Blk => exact absorb .keccak256 .blk
  | absorbKeccak384Blk => exact absorb .keccak384 .blk
  | absorbKeccak512Blk => exact absorb .keccak512 .blk
  | absorbSha3_224Msg => exact absorb .sha3_224 .msg
  | absorbSha3_256Msg => exact absorb .sha3_256 .msg
  | absorbSha3_384Msg => exact absorb .sha3_384 .msg
  | absorbSha3_512Msg => exact absorb .sha3_512 .msg
  | absorbKeccak224Msg => exact absorb .keccak224 .msg
  | absorbKeccak256Msg => exact absorb .keccak256 .msg
  | absorbKeccak384Msg => exact absorb .keccak384 .msg
  | absorbKeccak512Msg => exact absorb .keccak512 .msg
  | absorbSha3_224Fb0 => exact absorb .sha3_224 .fb0
  | absorbSha3_256Fb0 => exact absorb .sha3_256 .fb0
  | absorbSha3_384Fb0 => exact absorb .sha3_384 .fb0
  | absorbSha3_512Fb0 => exact absorb .sha3_512 .fb0
  | absorbKeccak224Fb0 => exact absorb .keccak224 .fb0
  | absorbKeccak256Fb0 => exact absorb .keccak256 .fb0
  | absorbKeccak384Fb0 => exact absorb .keccak384 .fb0
  | absorbKeccak512Fb0 => exact absorb .keccak512 .fb0
  | sppadSha3_224 => exact sppad .sha3_224
  | sppadSha3_256 => exact sppad .sha3_256
  | sppadSha3_384 => exact sppad .sha3_384
  | sppadSha3_512 => exact sppad .sha3_512
  | sppadKeccak224 => exact sppad .keccak224
  | sppadKeccak256 => exact sppad .keccak256
  | sppadKeccak384 => exact sppad .keccak384
  | sppadKeccak512 => exact sppad .keccak512
  | squeezeSha3_224 => exact squeeze .sha3_224
  | squeezeSha3_256 => exact squeeze .sha3_256
  | squeezeSha3_384 => exact squeeze .sha3_384
  | squeezeSha3_512 => exact squeeze .sha3_512
  | squeezeKeccak224 => exact squeeze .keccak224
  | squeezeKeccak256 => exact squeeze .keccak256
  | squeezeKeccak384 => exact squeeze .keccak384
  | squeezeKeccak512 => exact squeeze .keccak512
  | clear => exact clear

end Sys2Proof

namespace Sys2Proof.Machine

theorem exec_digestMd (a : MdAlg) (s : State) : exec (.digestMd a) s = digestMdCmd a s := by cases a <;> rfl

theorem exec_digestSponge (a : SpongeAlg) (s : State) : exec (.digestSponge a) s = digestSpongeCmd a s := by
  cases a <;> rfl

theorem exec_initMd (a : MdAlg) (s : State) : exec (.initMd a) s = Machine.initMd a s := by cases a <;> rfl

theorem exec_initSponge (a : SpongeAlg) (s : State) : exec (.initSponge a) s = Machine.initSponge s := by
  cases a <;> rfl

theorem exec_compress (a : MdAlg) (src : Src) (s : State) : exec (.compress a src) s = compressCmd a src s := by
  cases a <;> cases src <;> rfl

theorem exec_pad (a : MdAlg) (s : State) : exec (.pad a) s = padCmd a s := by cases a <;> rfl

theorem exec_serialize (a : MdAlg) (s : State) : exec (.serialize a) s = serializeCmd a s := by cases a <;> rfl

theorem exec_permute (s : State) : exec .permute s = permuteCmd s := rfl

theorem exec_absorb (a : SpongeAlg) (src : SpongeSrc) (s : State) :
    exec (.absorb a src) s = absorbCmd a src s := by cases a <;> cases src <;> rfl

theorem exec_sppad (a : SpongeAlg) (s : State) : exec (.sppad a) s = sppadCmd a s := by cases a <;> rfl

theorem exec_squeeze (a : SpongeAlg) (s : State) : exec (.squeeze a) s = squeezeCmd a s := by cases a <;> rfl

theorem exec_clear (s : State) : exec .clear s = clearCmd s := rfl

end Sys2Proof.Machine
end

