-- ==== Sys2Proof/Laws/State.lean ====
section
/-! SUPPORT. One lemma per field per named update of the state, each true by rfl, for simp: what an update
leaves alone, and what it writes. -/

namespace Sys2Proof.Machine

/-! ### `complete` -/

@[simp] theorem complete_msgCap (s : State) : (complete s).msgCap = s.msgCap := rfl
@[simp] theorem complete_md5 (s : State) : (complete s).md5 = s.md5 := rfl
@[simp] theorem complete_sha1 (s : State) : (complete s).sha1 = s.sha1 := rfl
@[simp] theorem complete_s32 (s : State) : (complete s).s32 = s.s32 := rfl
@[simp] theorem complete_s64 (s : State) : (complete s).s64 = s.s64 := rfl
@[simp] theorem complete_kec (s : State) : (complete s).kec = s.kec := rfl
@[simp] theorem complete_running (s : State) : (complete s).running = s.running := rfl
@[simp] theorem complete_done (s : State) : (complete s).done = true := rfl
@[simp] theorem complete_rejected (s : State) : (complete s).rejected = s.rejected := rfl
@[simp] theorem complete_len (s : State) : (complete s).len = s.len := rfl
@[simp] theorem complete_blkidx (s : State) : (complete s).blkidx = s.blkidx := rfl
@[simp] theorem complete_nfull (s : State) : (complete s).nfull = s.nfull := rfl
@[simp] theorem complete_rem (s : State) : (complete s).rem = s.rem := rfl
@[simp] theorem complete_need2 (s : State) : (complete s).need2 = s.need2 := rfl
@[simp] theorem complete_dlen (s : State) : (complete s).dlen = s.dlen := rfl
@[simp] theorem complete_msg (s : State) : (complete s).msg = s.msg := rfl
@[simp] theorem complete_blk (s : State) : (complete s).blk = s.blk := rfl
@[simp] theorem complete_fb0 (s : State) : (complete s).fb0 = s.fb0 := rfl
@[simp] theorem complete_fb1 (s : State) : (complete s).fb1 = s.fb1 := rfl
@[simp] theorem complete_dout (s : State) : (complete s).dout = s.dout := rfl
@[simp] theorem complete_msgEpoch (s : State) : (complete s).msgEpoch = s.msgEpoch := rfl
@[simp] theorem complete_host (s : State) : (complete s).host = s.host := rfl
@[simp] theorem complete_readOut (s : State) : (complete s).readOut = s.readOut := rfl

/-! ### `reject` -/

@[simp] theorem reject_msgCap (c : RejectCode) (s : State) : (reject c s).msgCap = s.msgCap := rfl
@[simp] theorem reject_md5 (c : RejectCode) (s : State) : (reject c s).md5 = s.md5 := rfl
@[simp] theorem reject_sha1 (c : RejectCode) (s : State) : (reject c s).sha1 = s.sha1 := rfl
@[simp] theorem reject_s32 (c : RejectCode) (s : State) : (reject c s).s32 = s.s32 := rfl
@[simp] theorem reject_s64 (c : RejectCode) (s : State) : (reject c s).s64 = s.s64 := rfl
@[simp] theorem reject_kec (c : RejectCode) (s : State) : (reject c s).kec = s.kec := rfl
@[simp] theorem reject_running (c : RejectCode) (s : State) : (reject c s).running = s.running := rfl
@[simp] theorem reject_done (c : RejectCode) (s : State) : (reject c s).done = false := rfl
@[simp] theorem reject_rejected (c : RejectCode) (s : State) : (reject c s).rejected = some c := rfl
@[simp] theorem reject_len (c : RejectCode) (s : State) : (reject c s).len = s.len := rfl
@[simp] theorem reject_blkidx (c : RejectCode) (s : State) : (reject c s).blkidx = s.blkidx := rfl
@[simp] theorem reject_nfull (c : RejectCode) (s : State) : (reject c s).nfull = s.nfull := rfl
@[simp] theorem reject_rem (c : RejectCode) (s : State) : (reject c s).rem = s.rem := rfl
@[simp] theorem reject_need2 (c : RejectCode) (s : State) : (reject c s).need2 = s.need2 := rfl
@[simp] theorem reject_dlen (c : RejectCode) (s : State) : (reject c s).dlen = s.dlen := rfl
@[simp] theorem reject_msg (c : RejectCode) (s : State) : (reject c s).msg = s.msg := rfl
@[simp] theorem reject_blk (c : RejectCode) (s : State) : (reject c s).blk = s.blk := rfl
@[simp] theorem reject_fb0 (c : RejectCode) (s : State) : (reject c s).fb0 = s.fb0 := rfl
@[simp] theorem reject_fb1 (c : RejectCode) (s : State) : (reject c s).fb1 = s.fb1 := rfl
@[simp] theorem reject_dout (c : RejectCode) (s : State) : (reject c s).dout = s.dout := rfl
@[simp] theorem reject_msgEpoch (c : RejectCode) (s : State) : (reject c s).msgEpoch = s.msgEpoch := rfl
@[simp] theorem reject_host (c : RejectCode) (s : State) : (reject c s).host = s.host := rfl
@[simp] theorem reject_readOut (c : RejectCode) (s : State) : (reject c s).readOut = s.readOut := rfl

/-! ### `lockedReject` -/

@[simp] theorem lockedReject_msgCap (s : State) : (lockedReject s).msgCap = s.msgCap := rfl
@[simp] theorem lockedReject_md5 (s : State) : (lockedReject s).md5 = s.md5 := rfl
@[simp] theorem lockedReject_sha1 (s : State) : (lockedReject s).sha1 = s.sha1 := rfl
@[simp] theorem lockedReject_s32 (s : State) : (lockedReject s).s32 = s.s32 := rfl
@[simp] theorem lockedReject_s64 (s : State) : (lockedReject s).s64 = s.s64 := rfl
@[simp] theorem lockedReject_kec (s : State) : (lockedReject s).kec = s.kec := rfl
@[simp] theorem lockedReject_running (s : State) : (lockedReject s).running = s.running := rfl
@[simp] theorem lockedReject_done (s : State) : (lockedReject s).done = false := rfl
@[simp] theorem lockedReject_rejected (s : State) : (lockedReject s).rejected = s.rejected := rfl
@[simp] theorem lockedReject_len (s : State) : (lockedReject s).len = s.len := rfl
@[simp] theorem lockedReject_blkidx (s : State) : (lockedReject s).blkidx = s.blkidx := rfl
@[simp] theorem lockedReject_nfull (s : State) : (lockedReject s).nfull = s.nfull := rfl
@[simp] theorem lockedReject_rem (s : State) : (lockedReject s).rem = s.rem := rfl
@[simp] theorem lockedReject_need2 (s : State) : (lockedReject s).need2 = s.need2 := rfl
@[simp] theorem lockedReject_dlen (s : State) : (lockedReject s).dlen = s.dlen := rfl
@[simp] theorem lockedReject_msg (s : State) : (lockedReject s).msg = s.msg := rfl
@[simp] theorem lockedReject_blk (s : State) : (lockedReject s).blk = s.blk := rfl
@[simp] theorem lockedReject_fb0 (s : State) : (lockedReject s).fb0 = s.fb0 := rfl
@[simp] theorem lockedReject_fb1 (s : State) : (lockedReject s).fb1 = s.fb1 := rfl
@[simp] theorem lockedReject_dout (s : State) : (lockedReject s).dout = s.dout := rfl
@[simp] theorem lockedReject_msgEpoch (s : State) : (lockedReject s).msgEpoch = s.msgEpoch := rfl
@[simp] theorem lockedReject_host (s : State) : (lockedReject s).host = s.host := rfl
@[simp] theorem lockedReject_readOut (s : State) : (lockedReject s).readOut = s.readOut := rfl

/-! ### `putDigest` -/

@[simp] theorem putDigest_msgCap (d : List Byte) (n : Nat) (s : State) :
    (putDigest d n s).msgCap = s.msgCap := rfl
@[simp] theorem putDigest_md5 (d : List Byte) (n : Nat) (s : State) : (putDigest d n s).md5 = s.md5 := rfl
@[simp] theorem putDigest_sha1 (d : List Byte) (n : Nat) (s : State) : (putDigest d n s).sha1 = s.sha1 := rfl
@[simp] theorem putDigest_s32 (d : List Byte) (n : Nat) (s : State) : (putDigest d n s).s32 = s.s32 := rfl
@[simp] theorem putDigest_s64 (d : List Byte) (n : Nat) (s : State) : (putDigest d n s).s64 = s.s64 := rfl
@[simp] theorem putDigest_kec (d : List Byte) (n : Nat) (s : State) : (putDigest d n s).kec = s.kec := rfl
@[simp] theorem putDigest_running (d : List Byte) (n : Nat) (s : State) :
    (putDigest d n s).running = s.running := rfl
@[simp] theorem putDigest_done (d : List Byte) (n : Nat) (s : State) : (putDigest d n s).done = s.done := rfl
@[simp] theorem putDigest_rejected (d : List Byte) (n : Nat) (s : State) :
    (putDigest d n s).rejected = s.rejected := rfl
@[simp] theorem putDigest_len (d : List Byte) (n : Nat) (s : State) : (putDigest d n s).len = s.len := rfl
@[simp] theorem putDigest_blkidx (d : List Byte) (n : Nat) (s : State) :
    (putDigest d n s).blkidx = s.blkidx := rfl
@[simp] theorem putDigest_nfull (d : List Byte) (n : Nat) (s : State) :
    (putDigest d n s).nfull = s.nfull := rfl
@[simp] theorem putDigest_rem (d : List Byte) (n : Nat) (s : State) : (putDigest d n s).rem = s.rem := rfl
@[simp] theorem putDigest_need2 (d : List Byte) (n : Nat) (s : State) :
    (putDigest d n s).need2 = s.need2 := rfl
@[simp] theorem putDigest_dlen (d : List Byte) (n : Nat) (s : State) :
    (putDigest d n s).dlen = BitVec.ofNat 8 n := rfl
@[simp] theorem putDigest_msg (d : List Byte) (n : Nat) (s : State) : (putDigest d n s).msg = s.msg := rfl
@[simp] theorem putDigest_blk (d : List Byte) (n : Nat) (s : State) : (putDigest d n s).blk = s.blk := rfl
@[simp] theorem putDigest_fb0 (d : List Byte) (n : Nat) (s : State) : (putDigest d n s).fb0 = s.fb0 := rfl
@[simp] theorem putDigest_fb1 (d : List Byte) (n : Nat) (s : State) : (putDigest d n s).fb1 = s.fb1 := rfl
@[simp] theorem putDigest_dout (d : List Byte) (n : Nat) (s : State) :
    (putDigest d n s).dout = fillSpace 64 d := rfl
@[simp] theorem putDigest_msgEpoch (d : List Byte) (n : Nat) (s : State) :
    (putDigest d n s).msgEpoch = s.msgEpoch := rfl
@[simp] theorem putDigest_host (d : List Byte) (n : Nat) (s : State) : (putDigest d n s).host = s.host := rfl
@[simp] theorem putDigest_readOut (d : List Byte) (n : Nat) (s : State) :
    (putDigest d n s).readOut = s.readOut := rfl

/-! ### `putPad` -/

@[simp] theorem putPad_msgCap (n r : Nat) (b : Bool) (f0 f1 : List Byte) (s : State) :
    (putPad n r b f0 f1 s).msgCap = s.msgCap := rfl
@[simp] theorem putPad_md5 (n r : Nat) (b : Bool) (f0 f1 : List Byte) (s : State) :
    (putPad n r b f0 f1 s).md5 = s.md5 := rfl
@[simp] theorem putPad_sha1 (n r : Nat) (b : Bool) (f0 f1 : List Byte) (s : State) :
    (putPad n r b f0 f1 s).sha1 = s.sha1 := rfl
@[simp] theorem putPad_s32 (n r : Nat) (b : Bool) (f0 f1 : List Byte) (s : State) :
    (putPad n r b f0 f1 s).s32 = s.s32 := rfl
@[simp] theorem putPad_s64 (n r : Nat) (b : Bool) (f0 f1 : List Byte) (s : State) :
    (putPad n r b f0 f1 s).s64 = s.s64 := rfl
@[simp] theorem putPad_kec (n r : Nat) (b : Bool) (f0 f1 : List Byte) (s : State) :
    (putPad n r b f0 f1 s).kec = s.kec := rfl
@[simp] theorem putPad_running (n r : Nat) (b : Bool) (f0 f1 : List Byte) (s : State) :
    (putPad n r b f0 f1 s).running = s.running := rfl
@[simp] theorem putPad_done (n r : Nat) (b : Bool) (f0 f1 : List Byte) (s : State) :
    (putPad n r b f0 f1 s).done = s.done := rfl
@[simp] theorem putPad_rejected (n r : Nat) (b : Bool) (f0 f1 : List Byte) (s : State) :
    (putPad n r b f0 f1 s).rejected = s.rejected := rfl
@[simp] theorem putPad_len (n r : Nat) (b : Bool) (f0 f1 : List Byte) (s : State) :
    (putPad n r b f0 f1 s).len = s.len := rfl
@[simp] theorem putPad_blkidx (n r : Nat) (b : Bool) (f0 f1 : List Byte) (s : State) :
    (putPad n r b f0 f1 s).blkidx = s.blkidx := rfl
@[simp] theorem putPad_nfull (n r : Nat) (b : Bool) (f0 f1 : List Byte) (s : State) :
    (putPad n r b f0 f1 s).nfull = BitVec.ofNat 64 n := rfl
@[simp] theorem putPad_rem (n r : Nat) (b : Bool) (f0 f1 : List Byte) (s : State) :
    (putPad n r b f0 f1 s).rem = BitVec.ofNat 8 r := rfl
@[simp] theorem putPad_need2 (n r : Nat) (b : Bool) (f0 f1 : List Byte) (s : State) :
    (putPad n r b f0 f1 s).need2 = b := rfl
@[simp] theorem putPad_dlen (n r : Nat) (b : Bool) (f0 f1 : List Byte) (s : State) :
    (putPad n r b f0 f1 s).dlen = s.dlen := rfl
@[simp] theorem putPad_msg (n r : Nat) (b : Bool) (f0 f1 : List Byte) (s : State) :
    (putPad n r b f0 f1 s).msg = s.msg := rfl
@[simp] theorem putPad_blk (n r : Nat) (b : Bool) (f0 f1 : List Byte) (s : State) :
    (putPad n r b f0 f1 s).blk = s.blk := rfl
@[simp] theorem putPad_fb0 (n r : Nat) (b : Bool) (f0 f1 : List Byte) (s : State) :
    (putPad n r b f0 f1 s).fb0 = fillSpace 144 f0 := rfl
@[simp] theorem putPad_fb1 (n r : Nat) (b : Bool) (f0 f1 : List Byte) (s : State) :
    (putPad n r b f0 f1 s).fb1 = fillSpace 128 f1 := rfl
@[simp] theorem putPad_dout (n r : Nat) (b : Bool) (f0 f1 : List Byte) (s : State) :
    (putPad n r b f0 f1 s).dout = s.dout := rfl
@[simp] theorem putPad_msgEpoch (n r : Nat) (b : Bool) (f0 f1 : List Byte) (s : State) :
    (putPad n r b f0 f1 s).msgEpoch = s.msgEpoch := rfl
@[simp] theorem putPad_host (n r : Nat) (b : Bool) (f0 f1 : List Byte) (s : State) :
    (putPad n r b f0 f1 s).host = s.host := rfl
@[simp] theorem putPad_readOut (n r : Nat) (b : Bool) (f0 f1 : List Byte) (s : State) :
    (putPad n r b f0 f1 s).readOut = s.readOut := rfl

/-! ### `zeroPad` -/

@[simp] theorem zeroPad_msgCap (s : State) : (zeroPad s).msgCap = s.msgCap := rfl
@[simp] theorem zeroPad_md5 (s : State) : (zeroPad s).md5 = s.md5 := rfl
@[simp] theorem zeroPad_sha1 (s : State) : (zeroPad s).sha1 = s.sha1 := rfl
@[simp] theorem zeroPad_s32 (s : State) : (zeroPad s).s32 = s.s32 := rfl
@[simp] theorem zeroPad_s64 (s : State) : (zeroPad s).s64 = s.s64 := rfl
@[simp] theorem zeroPad_kec (s : State) : (zeroPad s).kec = s.kec := rfl
@[simp] theorem zeroPad_running (s : State) : (zeroPad s).running = s.running := rfl
@[simp] theorem zeroPad_done (s : State) : (zeroPad s).done = s.done := rfl
@[simp] theorem zeroPad_rejected (s : State) : (zeroPad s).rejected = s.rejected := rfl
@[simp] theorem zeroPad_len (s : State) : (zeroPad s).len = s.len := rfl
@[simp] theorem zeroPad_blkidx (s : State) : (zeroPad s).blkidx = s.blkidx := rfl
@[simp] theorem zeroPad_nfull (s : State) : (zeroPad s).nfull = 0 := rfl
@[simp] theorem zeroPad_rem (s : State) : (zeroPad s).rem = 0 := rfl
@[simp] theorem zeroPad_need2 (s : State) : (zeroPad s).need2 = false := rfl
@[simp] theorem zeroPad_dlen (s : State) : (zeroPad s).dlen = s.dlen := rfl
@[simp] theorem zeroPad_msg (s : State) : (zeroPad s).msg = s.msg := rfl
@[simp] theorem zeroPad_blk (s : State) : (zeroPad s).blk = s.blk := rfl
@[simp] theorem zeroPad_fb0 (s : State) : (zeroPad s).fb0 = Vector.replicate 144 0 := rfl
@[simp] theorem zeroPad_fb1 (s : State) : (zeroPad s).fb1 = Vector.replicate 128 0 := rfl
@[simp] theorem zeroPad_dout (s : State) : (zeroPad s).dout = s.dout := rfl
@[simp] theorem zeroPad_msgEpoch (s : State) : (zeroPad s).msgEpoch = s.msgEpoch := rfl
@[simp] theorem zeroPad_host (s : State) : (zeroPad s).host = s.host := rfl
@[simp] theorem zeroPad_readOut (s : State) : (zeroPad s).readOut = s.readOut := rfl

/-! ### `beginCommand` -/

@[simp] theorem beginCommand_msgCap (i : Instr) (s : State) : (beginCommand i s).msgCap = s.msgCap := rfl
@[simp] theorem beginCommand_md5 (i : Instr) (s : State) : (beginCommand i s).md5 = s.md5 := rfl
@[simp] theorem beginCommand_sha1 (i : Instr) (s : State) : (beginCommand i s).sha1 = s.sha1 := rfl
@[simp] theorem beginCommand_s32 (i : Instr) (s : State) : (beginCommand i s).s32 = s.s32 := rfl
@[simp] theorem beginCommand_s64 (i : Instr) (s : State) : (beginCommand i s).s64 = s.s64 := rfl
@[simp] theorem beginCommand_kec (i : Instr) (s : State) : (beginCommand i s).kec = s.kec := rfl
@[simp] theorem beginCommand_running (i : Instr) (s : State) : (beginCommand i s).running = some i := rfl
@[simp] theorem beginCommand_done (i : Instr) (s : State) : (beginCommand i s).done = false := rfl
@[simp] theorem beginCommand_rejected (i : Instr) (s : State) : (beginCommand i s).rejected = none := rfl
@[simp] theorem beginCommand_len (i : Instr) (s : State) : (beginCommand i s).len = s.len := rfl
@[simp] theorem beginCommand_blkidx (i : Instr) (s : State) : (beginCommand i s).blkidx = s.blkidx := rfl
@[simp] theorem beginCommand_nfull (i : Instr) (s : State) : (beginCommand i s).nfull = s.nfull := rfl
@[simp] theorem beginCommand_rem (i : Instr) (s : State) : (beginCommand i s).rem = s.rem := rfl
@[simp] theorem beginCommand_need2 (i : Instr) (s : State) : (beginCommand i s).need2 = s.need2 := rfl
@[simp] theorem beginCommand_dlen (i : Instr) (s : State) : (beginCommand i s).dlen = s.dlen := rfl
@[simp] theorem beginCommand_msg (i : Instr) (s : State) : (beginCommand i s).msg = s.msg := rfl
@[simp] theorem beginCommand_blk (i : Instr) (s : State) : (beginCommand i s).blk = s.blk := rfl
@[simp] theorem beginCommand_fb0 (i : Instr) (s : State) : (beginCommand i s).fb0 = s.fb0 := rfl
@[simp] theorem beginCommand_fb1 (i : Instr) (s : State) : (beginCommand i s).fb1 = s.fb1 := rfl
@[simp] theorem beginCommand_dout (i : Instr) (s : State) : (beginCommand i s).dout = s.dout := rfl
@[simp] theorem beginCommand_msgEpoch (i : Instr) (s : State) : (beginCommand i s).msgEpoch = s.msgEpoch := rfl
@[simp] theorem beginCommand_host (i : Instr) (s : State) : (beginCommand i s).host = s.host := rfl
@[simp] theorem beginCommand_readOut (i : Instr) (s : State) : (beginCommand i s).readOut = s.readOut := rfl

/-! ### `clearOp` -/

@[simp] theorem clearOp_msgCap (s : State) : (clearOp s).msgCap = s.msgCap := rfl
@[simp] theorem clearOp_md5 (s : State) : (clearOp s).md5 = Vector.replicate 4 0 := rfl
@[simp] theorem clearOp_sha1 (s : State) : (clearOp s).sha1 = Vector.replicate 5 0 := rfl
@[simp] theorem clearOp_s32 (s : State) : (clearOp s).s32 = Vector.replicate 8 0 := rfl
@[simp] theorem clearOp_s64 (s : State) : (clearOp s).s64 = Vector.replicate 8 0 := rfl
@[simp] theorem clearOp_kec (s : State) : (clearOp s).kec = Vector.replicate 25 0 := rfl
@[simp] theorem clearOp_running (s : State) : (clearOp s).running = s.running := rfl
@[simp] theorem clearOp_done (s : State) : (clearOp s).done = s.done := rfl
@[simp] theorem clearOp_rejected (s : State) : (clearOp s).rejected = none := rfl
@[simp] theorem clearOp_len (s : State) : (clearOp s).len = 0 := rfl
@[simp] theorem clearOp_blkidx (s : State) : (clearOp s).blkidx = 0 := rfl
@[simp] theorem clearOp_nfull (s : State) : (clearOp s).nfull = 0 := rfl
@[simp] theorem clearOp_rem (s : State) : (clearOp s).rem = 0 := rfl
@[simp] theorem clearOp_need2 (s : State) : (clearOp s).need2 = false := rfl
@[simp] theorem clearOp_dlen (s : State) : (clearOp s).dlen = 0 := rfl
@[simp] theorem clearOp_msg (s : State) : (clearOp s).msg = s.msg := rfl
@[simp] theorem clearOp_blk (s : State) : (clearOp s).blk = Vector.replicate 144 0 := rfl
@[simp] theorem clearOp_fb0 (s : State) : (clearOp s).fb0 = Vector.replicate 144 0 := rfl
@[simp] theorem clearOp_fb1 (s : State) : (clearOp s).fb1 = Vector.replicate 128 0 := rfl
@[simp] theorem clearOp_dout (s : State) : (clearOp s).dout = Vector.replicate 64 0 := rfl
@[simp] theorem clearOp_msgEpoch (s : State) : (clearOp s).msgEpoch = s.msgEpoch := rfl
@[simp] theorem clearOp_host (s : State) : (clearOp s).host = s.host := rfl
@[simp] theorem clearOp_readOut (s : State) : (clearOp s).readOut = s.readOut := rfl

/-! ### `initFile` -/

@[simp] theorem initFile_msgCap (a : MdAlg) (s : State) :
    (initFile a s).msgCap = s.msgCap := by cases a <;> rfl
@[simp] theorem initFile_kec (a : MdAlg) (s : State) : (initFile a s).kec = s.kec := by cases a <;> rfl
@[simp] theorem initFile_running (a : MdAlg) (s : State) :
    (initFile a s).running = s.running := by cases a <;> rfl
@[simp] theorem initFile_done (a : MdAlg) (s : State) : (initFile a s).done = s.done := by cases a <;> rfl
@[simp] theorem initFile_rejected (a : MdAlg) (s : State) :
    (initFile a s).rejected = s.rejected := by cases a <;> rfl
@[simp] theorem initFile_len (a : MdAlg) (s : State) : (initFile a s).len = s.len := by cases a <;> rfl
@[simp] theorem initFile_blkidx (a : MdAlg) (s : State) :
    (initFile a s).blkidx = s.blkidx := by cases a <;> rfl
@[simp] theorem initFile_nfull (a : MdAlg) (s : State) : (initFile a s).nfull = s.nfull := by cases a <;> rfl
@[simp] theorem initFile_rem (a : MdAlg) (s : State) : (initFile a s).rem = s.rem := by cases a <;> rfl
@[simp] theorem initFile_need2 (a : MdAlg) (s : State) : (initFile a s).need2 = s.need2 := by cases a <;> rfl
@[simp] theorem initFile_dlen (a : MdAlg) (s : State) : (initFile a s).dlen = s.dlen := by cases a <;> rfl
@[simp] theorem initFile_msg (a : MdAlg) (s : State) : (initFile a s).msg = s.msg := by cases a <;> rfl
@[simp] theorem initFile_blk (a : MdAlg) (s : State) : (initFile a s).blk = s.blk := by cases a <;> rfl
@[simp] theorem initFile_fb0 (a : MdAlg) (s : State) : (initFile a s).fb0 = s.fb0 := by cases a <;> rfl
@[simp] theorem initFile_fb1 (a : MdAlg) (s : State) : (initFile a s).fb1 = s.fb1 := by cases a <;> rfl
@[simp] theorem initFile_dout (a : MdAlg) (s : State) : (initFile a s).dout = s.dout := by cases a <;> rfl
@[simp] theorem initFile_msgEpoch (a : MdAlg) (s : State) :
    (initFile a s).msgEpoch = s.msgEpoch := by cases a <;> rfl
@[simp] theorem initFile_host (a : MdAlg) (s : State) : (initFile a s).host = s.host := by cases a <;> rfl
@[simp] theorem initFile_readOut (a : MdAlg) (s : State) :
    (initFile a s).readOut = s.readOut := by cases a <;> rfl

/-! ### `compressFile` -/

@[simp] theorem compressFile_msgCap (a : MdAlg) (B : List Byte) (s : State) :
    (compressFile a B s).msgCap = s.msgCap := by cases a <;> rfl
@[simp] theorem compressFile_kec (a : MdAlg) (B : List Byte) (s : State) :
    (compressFile a B s).kec = s.kec := by cases a <;> rfl
@[simp] theorem compressFile_running (a : MdAlg) (B : List Byte) (s : State) :
    (compressFile a B s).running = s.running := by cases a <;> rfl
@[simp] theorem compressFile_done (a : MdAlg) (B : List Byte) (s : State) :
    (compressFile a B s).done = s.done := by cases a <;> rfl
@[simp] theorem compressFile_rejected (a : MdAlg) (B : List Byte) (s : State) :
    (compressFile a B s).rejected = s.rejected := by cases a <;> rfl
@[simp] theorem compressFile_len (a : MdAlg) (B : List Byte) (s : State) :
    (compressFile a B s).len = s.len := by cases a <;> rfl
@[simp] theorem compressFile_blkidx (a : MdAlg) (B : List Byte) (s : State) :
    (compressFile a B s).blkidx = s.blkidx := by cases a <;> rfl
@[simp] theorem compressFile_nfull (a : MdAlg) (B : List Byte) (s : State) :
    (compressFile a B s).nfull = s.nfull := by cases a <;> rfl
@[simp] theorem compressFile_rem (a : MdAlg) (B : List Byte) (s : State) :
    (compressFile a B s).rem = s.rem := by cases a <;> rfl
@[simp] theorem compressFile_need2 (a : MdAlg) (B : List Byte) (s : State) :
    (compressFile a B s).need2 = s.need2 := by cases a <;> rfl
@[simp] theorem compressFile_dlen (a : MdAlg) (B : List Byte) (s : State) :
    (compressFile a B s).dlen = s.dlen := by cases a <;> rfl
@[simp] theorem compressFile_msg (a : MdAlg) (B : List Byte) (s : State) :
    (compressFile a B s).msg = s.msg := by cases a <;> rfl
@[simp] theorem compressFile_blk (a : MdAlg) (B : List Byte) (s : State) :
    (compressFile a B s).blk = s.blk := by cases a <;> rfl
@[simp] theorem compressFile_fb0 (a : MdAlg) (B : List Byte) (s : State) :
    (compressFile a B s).fb0 = s.fb0 := by cases a <;> rfl
@[simp] theorem compressFile_fb1 (a : MdAlg) (B : List Byte) (s : State) :
    (compressFile a B s).fb1 = s.fb1 := by cases a <;> rfl
@[simp] theorem compressFile_dout (a : MdAlg) (B : List Byte) (s : State) :
    (compressFile a B s).dout = s.dout := by cases a <;> rfl
@[simp] theorem compressFile_msgEpoch (a : MdAlg) (B : List Byte) (s : State) :
    (compressFile a B s).msgEpoch = s.msgEpoch := by cases a <;> rfl
@[simp] theorem compressFile_host (a : MdAlg) (B : List Byte) (s : State) :
    (compressFile a B s).host = s.host := by cases a <;> rfl
@[simp] theorem compressFile_readOut (a : MdAlg) (B : List Byte) (s : State) :
    (compressFile a B s).readOut = s.readOut := by cases a <;> rfl

/-! ### `zeroFile` -/

@[simp] theorem zeroFile_msgCap (a : MdAlg) (s : State) :
    (zeroFile a s).msgCap = s.msgCap := by cases a <;> rfl
@[simp] theorem zeroFile_kec (a : MdAlg) (s : State) : (zeroFile a s).kec = s.kec := by cases a <;> rfl
@[simp] theorem zeroFile_running (a : MdAlg) (s : State) :
    (zeroFile a s).running = s.running := by cases a <;> rfl
@[simp] theorem zeroFile_done (a : MdAlg) (s : State) : (zeroFile a s).done = s.done := by cases a <;> rfl
@[simp] theorem zeroFile_rejected (a : MdAlg) (s : State) :
    (zeroFile a s).rejected = s.rejected := by cases a <;> rfl
@[simp] theorem zeroFile_len (a : MdAlg) (s : State) : (zeroFile a s).len = s.len := by cases a <;> rfl
@[simp] theorem zeroFile_blkidx (a : MdAlg) (s : State) :
    (zeroFile a s).blkidx = s.blkidx := by cases a <;> rfl
@[simp] theorem zeroFile_nfull (a : MdAlg) (s : State) : (zeroFile a s).nfull = s.nfull := by cases a <;> rfl
@[simp] theorem zeroFile_rem (a : MdAlg) (s : State) : (zeroFile a s).rem = s.rem := by cases a <;> rfl
@[simp] theorem zeroFile_need2 (a : MdAlg) (s : State) : (zeroFile a s).need2 = s.need2 := by cases a <;> rfl
@[simp] theorem zeroFile_dlen (a : MdAlg) (s : State) : (zeroFile a s).dlen = s.dlen := by cases a <;> rfl
@[simp] theorem zeroFile_msg (a : MdAlg) (s : State) : (zeroFile a s).msg = s.msg := by cases a <;> rfl
@[simp] theorem zeroFile_blk (a : MdAlg) (s : State) : (zeroFile a s).blk = s.blk := by cases a <;> rfl
@[simp] theorem zeroFile_fb0 (a : MdAlg) (s : State) : (zeroFile a s).fb0 = s.fb0 := by cases a <;> rfl
@[simp] theorem zeroFile_fb1 (a : MdAlg) (s : State) : (zeroFile a s).fb1 = s.fb1 := by cases a <;> rfl
@[simp] theorem zeroFile_dout (a : MdAlg) (s : State) : (zeroFile a s).dout = s.dout := by cases a <;> rfl
@[simp] theorem zeroFile_msgEpoch (a : MdAlg) (s : State) :
    (zeroFile a s).msgEpoch = s.msgEpoch := by cases a <;> rfl
@[simp] theorem zeroFile_host (a : MdAlg) (s : State) : (zeroFile a s).host = s.host := by cases a <;> rfl
@[simp] theorem zeroFile_readOut (a : MdAlg) (s : State) :
    (zeroFile a s).readOut = s.readOut := by cases a <;> rfl

/-! ### `writeByte` -/

@[simp] theorem writeByte_msgCap (s : State) (sp : Space) (i : Nat) (b : Byte) :
    (writeByte s sp i b).msgCap = s.msgCap := by cases sp <;> rfl
@[simp] theorem writeByte_md5 (s : State) (sp : Space) (i : Nat) (b : Byte) :
    (writeByte s sp i b).md5 = s.md5 := by cases sp <;> rfl
@[simp] theorem writeByte_sha1 (s : State) (sp : Space) (i : Nat) (b : Byte) :
    (writeByte s sp i b).sha1 = s.sha1 := by cases sp <;> rfl
@[simp] theorem writeByte_s32 (s : State) (sp : Space) (i : Nat) (b : Byte) :
    (writeByte s sp i b).s32 = s.s32 := by cases sp <;> rfl
@[simp] theorem writeByte_s64 (s : State) (sp : Space) (i : Nat) (b : Byte) :
    (writeByte s sp i b).s64 = s.s64 := by cases sp <;> rfl
@[simp] theorem writeByte_kec (s : State) (sp : Space) (i : Nat) (b : Byte) :
    (writeByte s sp i b).kec = s.kec := by cases sp <;> rfl
@[simp] theorem writeByte_running (s : State) (sp : Space) (i : Nat) (b : Byte) :
    (writeByte s sp i b).running = s.running := by cases sp <;> rfl
@[simp] theorem writeByte_done (s : State) (sp : Space) (i : Nat) (b : Byte) :
    (writeByte s sp i b).done = s.done := by cases sp <;> rfl
@[simp] theorem writeByte_rejected (s : State) (sp : Space) (i : Nat) (b : Byte) :
    (writeByte s sp i b).rejected = s.rejected := by cases sp <;> rfl
@[simp] theorem writeByte_len (s : State) (sp : Space) (i : Nat) (b : Byte) :
    (writeByte s sp i b).len = s.len := by cases sp <;> rfl
@[simp] theorem writeByte_blkidx (s : State) (sp : Space) (i : Nat) (b : Byte) :
    (writeByte s sp i b).blkidx = s.blkidx := by cases sp <;> rfl
@[simp] theorem writeByte_nfull (s : State) (sp : Space) (i : Nat) (b : Byte) :
    (writeByte s sp i b).nfull = s.nfull := by cases sp <;> rfl
@[simp] theorem writeByte_rem (s : State) (sp : Space) (i : Nat) (b : Byte) :
    (writeByte s sp i b).rem = s.rem := by cases sp <;> rfl
@[simp] theorem writeByte_need2 (s : State) (sp : Space) (i : Nat) (b : Byte) :
    (writeByte s sp i b).need2 = s.need2 := by cases sp <;> rfl
@[simp] theorem writeByte_dlen (s : State) (sp : Space) (i : Nat) (b : Byte) :
    (writeByte s sp i b).dlen = s.dlen := by cases sp <;> rfl
@[simp] theorem writeByte_fb0 (s : State) (sp : Space) (i : Nat) (b : Byte) :
    (writeByte s sp i b).fb0 = s.fb0 := by cases sp <;> rfl
@[simp] theorem writeByte_fb1 (s : State) (sp : Space) (i : Nat) (b : Byte) :
    (writeByte s sp i b).fb1 = s.fb1 := by cases sp <;> rfl
@[simp] theorem writeByte_dout (s : State) (sp : Space) (i : Nat) (b : Byte) :
    (writeByte s sp i b).dout = s.dout := by cases sp <;> rfl
@[simp] theorem writeByte_msgEpoch (s : State) (sp : Space) (i : Nat) (b : Byte) :
    (writeByte s sp i b).msgEpoch = s.msgEpoch := by cases sp <;> rfl
@[simp] theorem writeByte_host (s : State) (sp : Space) (i : Nat) (b : Byte) :
    (writeByte s sp i b).host = s.host := by cases sp <;> rfl
@[simp] theorem writeByte_readOut (s : State) (sp : Space) (i : Nat) (b : Byte) :
    (writeByte s sp i b).readOut = s.readOut := by cases sp <;> rfl

/-! ### The flags -/

@[simp] theorem busy_mk_none (s : State) : State.busy { s with running := none } = false := rfl
@[simp] theorem err_mk_running (s : State) (r : Option Instr) : State.err { s with running := r } = s.err := rfl
@[simp] theorem complete_busy (s : State) : (complete s).busy = s.busy := rfl
@[simp] theorem complete_err (s : State) : (complete s).err = s.err := rfl
@[simp] theorem reject_busy (c : RejectCode) (s : State) : (reject c s).busy = s.busy := rfl
@[simp] theorem reject_err (c : RejectCode) (s : State) : (reject c s).err = true := rfl
@[simp] theorem lockedReject_busy (s : State) : (lockedReject s).busy = s.busy := rfl
@[simp] theorem lockedReject_err (s : State) : (lockedReject s).err = s.err := rfl
@[simp] theorem clearOp_busy (s : State) : (clearOp s).busy = s.busy := rfl
@[simp] theorem clearOp_err (s : State) : (clearOp s).err = false := rfl

end Sys2Proof.Machine
end

