-- ==== Sys2Proof/Laws/Commands.lean ====
section
/-! SUPPORT. The accept check as every command's meaning goes through it (R188 to R192): what `command` answers,
case by case, and what it can have answered; the same for the CLEAR form. -/

namespace Sys2Proof.Machine

variable {check : State → Option RejectCode} {op : State → State} {s t : State}

/-- A ready CORE and no cause of rejection: the command completes (R188). -/
theorem command_accept (h : s.ready) (hc : check s = none) : command check op s = .next (complete (op s)) := by
  simp [command, h.1, h.2, hc]

/-- A ready CORE and a cause: rejection before any effect (R189). -/
theorem command_reject {c : RejectCode} (h : s.ready) (hc : check s = some c) :
    command check op s = .next (reject c s) := by
  simp [command, h.1, h.2, hc]

/-- The lock (R190). -/
theorem command_locked (hb : s.busy = false) (he : s.err = true) : command check op s = .next (lockedReject s) := by
  simp [command, hb, he]

/-- A command while another is in progress is refused (R200). -/
theorem command_busy (hb : s.busy = true) : command check op s = .refused .accessWhileBusy := by
  simp [command, hb]

/-- Everything `command` can have done when it answers a next state. -/
theorem command_next (h : command check op s = .next t) :
    s.busy = false ∧
      ((s.err = true ∧ t = lockedReject s) ∨
       (∃ c, s.err = false ∧ check s = some c ∧ t = reject c s) ∨
       (s.err = false ∧ check s = none ∧ t = complete (op s))) := by
  unfold command at h
  split at h
  · cases h
  · rename_i hb
    refine ⟨by simpa using hb, ?_⟩
    split at h
    · rename_i he
      cases h
      exact .inl ⟨he, rfl⟩
    · rename_i he
      have he : s.err = false := by simpa using he
      split at h <;> cases h
      · exact .inr (.inl ⟨_, he, ‹_›, rfl⟩)
      · exact .inr (.inr ⟨he, ‹_›, rfl⟩)

/-- CLEAR's form: accepted whenever no command is in progress (R188 step 1). -/
theorem commandAlways_accept (hb : s.busy = false) : commandAlways op s = .next (complete (op s)) := by
  simp [commandAlways, hb]

/-- Everything CLEAR's form can have done when it answers a next state. -/
theorem commandAlways_next (h : commandAlways op s = .next t) : s.busy = false ∧ t = complete (op s) := by
  unfold commandAlways at h
  split at h
  · cases h
  · rename_i hb
    cases h
    exact ⟨by simpa using hb, rfl⟩

/-- An illegal word on a ready CORE (R185). -/
theorem illegalCommand_ready (h : s.ready) : illegalCommand s = .next (reject .illegal s) :=
  command_reject h rfl

/-! ## The checks -/

theorem lenCheck_none (h : s.lenOk) : lenCheck s = none := by
  have : ¬ s.msgCap.val < s.len.toNat := Nat.not_lt.2 h
  simp [lenCheck, this]

theorem lenCheck_some (h : s.msgCap.val < s.len.toNat) : lenCheck s = some .len := by simp [lenCheck, h]

theorem blockCheck_of_ne {src : Src} (h : src ≠ .msg) (n : Nat) (s : State) : blockCheck src n s = none := by
  cases src <;> first | rfl | exact absurd rfl h

theorem blockCheck_msg_none {n : Nat} (h : s.lenOk) (hr : (s.blkidx.toNat + 1) * n ≤ s.len.toNat) :
    blockCheck .msg n s = none := by
  have h1 : ¬ s.msgCap.val < s.len.toNat := Nat.not_lt.2 h
  have h2 : ¬ s.len.toNat < (s.blkidx.toNat + 1) * n := Nat.not_lt.2 hr
  simp [blockCheck, h1, h2]

theorem blockCheck_msg_range {n : Nat} (h : s.lenOk) (hr : s.len.toNat < (s.blkidx.toNat + 1) * n) :
    blockCheck .msg n s = some .range := by
  have h1 : ¬ s.msgCap.val < s.len.toNat := Nat.not_lt.2 h
  simp [blockCheck, h1, hr]

theorem blockCheck_msg_len {n : Nat} (h : s.msgCap.val < s.len.toNat) : blockCheck .msg n s = some .len := by
  simp [blockCheck, h]

/-- The checks read `LEN`, `BLKIDX` and `MSG_CAP` only. -/
theorem lenCheck_congr {s t : State} (hc : t.msgCap = s.msgCap) (hl : t.len = s.len) : lenCheck t = lenCheck s := by
  simp [lenCheck, hc, hl]

theorem blockCheck_congr {s t : State} (hc : t.msgCap = s.msgCap) (hl : t.len = s.len) (hb : t.blkidx = s.blkidx)
    (src : Src) (n : Nat) : blockCheck src n t = blockCheck src n s := by
  cases src <;> simp [blockCheck, hc, hl, hb]

/-! ## Every command -/

/-- What the operation of a command other than CLEAR leaves alone, and that it does not look at `DONE`. -/
structure OpFrame (op : State → State) : Prop where
  running (s : State) : (op s).running = s.running
  rejected (s : State) : (op s).rejected = s.rejected
  outside (s : State) : SameOutside s (op s)
  msg (s : State) : (op s).msg = s.msg
  len (s : State) : (op s).len = s.len
  blkidx (s : State) : (op s).blkidx = s.blkidx
  blk (s : State) : (op s).blk = s.blk
  done (s : State) (b : Bool) : complete (op { s with done := b }) = complete (op s)

theorem digestMd_frame (a : MdAlg) :
    OpFrame (fun t => zeroPad (zeroFile a (putDigest (mdDigest a t) (mdOutLen a) t))) where
  running _ := by simp
  rejected _ := by simp
  msg _ := by simp
  len _ := by simp
  blkidx _ := by simp
  blk _ := by simp
  outside _ := by simp [SameOutside]
  done _ _ := by cases a <;> rfl

theorem digestSponge_frame (a : SpongeAlg) :
    OpFrame (fun t => zeroPad { putDigest (spongeDigest a t) (spongeOutLen a) t with kec := keccakZero }) where
  running _ := by simp
  rejected _ := by simp
  msg _ := by simp
  len _ := by simp
  blkidx _ := by simp
  blk _ := by simp
  outside _ := by simp [SameOutside]
  done _ _ := by rfl

theorem initMd_frame (a : MdAlg) : OpFrame (initFile a) where
  running _ := by simp
  rejected _ := by simp
  msg _ := by simp
  len _ := by simp
  blkidx _ := by simp
  blk _ := by simp
  outside _ := by simp [SameOutside]
  done _ _ := by cases a <;> rfl

theorem initSponge_frame : OpFrame (fun t => { t with kec := keccakZero }) where
  running _ := by simp
  rejected _ := by simp
  msg _ := by simp
  len _ := by simp
  blkidx _ := by simp
  blk _ := by simp
  outside _ := by simp [SameOutside]
  done _ _ := by rfl

theorem compress_frame (a : MdAlg) (src : Src) :
    OpFrame (fun t => compressFile a (loadBlock src (blockSize a) t) t) where
  running _ := by simp
  rejected _ := by simp
  msg _ := by simp
  len _ := by simp
  blkidx _ := by simp
  blk _ := by simp
  outside _ := by simp [SameOutside]
  done _ _ := by cases a <;> cases src <;> rfl

theorem pad_frame (a : MdAlg) : OpFrame (padOp a) where
  running _ := by simp [padOp]
  rejected _ := by simp [padOp]
  msg _ := by simp [padOp]
  len _ := by simp [padOp]
  blkidx _ := by simp [padOp]
  blk _ := by simp [padOp]
  outside _ := by simp [padOp, SameOutside]
  done _ _ := by rfl

theorem serialize_frame (a : MdAlg) : OpFrame (fun t => putDigest (serialization a t) (mdOutLen a) t) where
  running _ := by simp
  rejected _ := by simp
  msg _ := by simp
  len _ := by simp
  blkidx _ := by simp
  blk _ := by simp
  outside _ := by simp [SameOutside]
  done _ _ := by cases a <;> rfl

theorem permute_frame : OpFrame (fun t => { t with kec := keccakF t.kec }) where
  running _ := by simp
  rejected _ := by simp
  msg _ := by simp
  len _ := by simp
  blkidx _ := by simp
  blk _ := by simp
  outside _ := by simp [SameOutside]
  done _ _ := by rfl

theorem absorb_frame (a : SpongeAlg) (src : SpongeSrc) :
    OpFrame (fun t => { t with kec := absorb (rate a) t.kec (loadBlock (absorbSrc src) (rate a) t) }) where
  running _ := by simp
  rejected _ := by simp
  msg _ := by simp
  len _ := by simp
  blkidx _ := by simp
  blk _ := by simp
  outside _ := by simp [SameOutside]
  done _ _ := by cases src <;> rfl

theorem sppad_frame (a : SpongeAlg) : OpFrame (sppadOp a) where
  running _ := by simp [sppadOp]
  rejected _ := by simp [sppadOp]
  msg _ := by simp [sppadOp]
  len _ := by simp [sppadOp]
  blkidx _ := by simp [sppadOp]
  blk _ := by simp [sppadOp]
  outside _ := by simp [sppadOp, SameOutside]
  done _ _ := by rfl

theorem squeeze_frame (a : SpongeAlg) :
    OpFrame (fun t => putDigest (squeeze t.kec (spongeOutLen a)) (spongeOutLen a) t) where
  running _ := by simp
  rejected _ := by simp
  msg _ := by simp
  len _ := by simp
  blkidx _ := by simp
  blk _ := by simp
  outside _ := by simp [SameOutside]
  done _ _ := by rfl

/-- Every command is the accept check over an operation of its own: one shape for the 106 meanings. The check reads
`LEN`, `BLKIDX` and `MSG_CAP` only. CLEAR is accepted always. -/
theorem exec_shape (i : Instr) :
    (∃ check op, (∀ s, exec i s = command check op s) ∧
      (∀ s t : State, t.msgCap = s.msgCap → t.len = s.len → t.blkidx = s.blkidx → check t = check s) ∧
      OpFrame op) ∨
    (i = .clear ∧ ∀ s, exec i s = commandAlways clearOp s) := by
  induction i using Instr.familyCases with
  | clear => exact .inr ⟨rfl, exec_clear⟩
  | digestMd a => exact .inl ⟨_, _, exec_digestMd a, fun _ _ h1 h2 _ => lenCheck_congr h1 h2, digestMd_frame a⟩
  | digestSponge a =>
    exact .inl ⟨_, _, exec_digestSponge a, fun _ _ h1 h2 _ => lenCheck_congr h1 h2, digestSponge_frame a⟩
  | initMd a => exact .inl ⟨_, _, exec_initMd a, fun _ _ _ _ _ => rfl, initMd_frame a⟩
  | initSponge a => exact .inl ⟨_, _, exec_initSponge a, fun _ _ _ _ _ => rfl, initSponge_frame⟩
  | compress a src =>
    exact .inl ⟨_, _, exec_compress a src, fun _ _ h1 h2 h3 => blockCheck_congr h1 h2 h3 _ _, compress_frame a src⟩
  | pad a => exact .inl ⟨_, _, exec_pad a, fun _ _ h1 h2 _ => lenCheck_congr h1 h2, pad_frame a⟩
  | serialize a => exact .inl ⟨_, _, exec_serialize a, fun _ _ _ _ _ => rfl, serialize_frame a⟩
  | permute => exact .inl ⟨_, _, exec_permute, fun _ _ _ _ _ => rfl, permute_frame⟩
  | absorb a src =>
    exact .inl ⟨_, _, exec_absorb a src, fun _ _ h1 h2 h3 => blockCheck_congr h1 h2 h3 _ _, absorb_frame a src⟩
  | sppad a => exact .inl ⟨_, _, exec_sppad a, fun _ _ h1 h2 _ => lenCheck_congr h1 h2, sppad_frame a⟩
  | squeeze a => exact .inl ⟨_, _, exec_squeeze a, fun _ _ _ _ _ => rfl, squeeze_frame a⟩

end Sys2Proof.Machine
end

