-- ==== Sys2Proof/Laws/Decode.lean ====
section
/-! SUPPORT. The decoder's lookup: what it answers comes from a row of the opcode table, and every row's word is
the one the encoder composes from the fields (R49, R53). -/

namespace Sys2Proof

/-- What the decoder answers stands in the table. -/
theorem decode_ok_mem {w : Word32} {i : Instr} (h : decode w = .ok i) : (w, i) ∈ opcodeTable := by
  unfold decode at h
  split at h
  · rename_i row hf
    cases h
    have h1 : row.1 = w := by simpa using List.find?_some hf
    have h2 := List.mem_of_find?_eq_some hf
    subst h1
    exact h2
  · cases h

/-- What the decoder refuses stands in no row of the table. -/
theorem decode_error_not_mem {w : Word32} {e : DecodeError} (h : decode w = .error e) :
    w ∉ opcodeTable.map Prod.fst := by
  unfold decode at h
  split at h
  · cases h
  · rename_i hf
    intro hm
    obtain ⟨row, hr, rfl⟩ := List.mem_map.1 hm
    exact List.find?_eq_none.1 hf row hr (by simp)

/-- Every row's word is the encoder's. -/
theorem opcodeTable_encode : ∀ row ∈ opcodeTable, row.1 = encode row.2 := by
  have h : (opcodeTable.all fun r => decide (r.1 = encode r.2)) = true := rfl
  exact fun r hr => by simpa using List.all_eq_true.1 h r hr

end Sys2Proof
end

