-- ==== Sys2Proof/Laws/Memory.lean ====
section
/-! SUPPORT. The message memory: what a lookup sees after a write, and that every operation keeps the canonical
form (R28; notes/assumptions/2.md). -/

namespace Sys2Proof.Machine

/-- A read after a write: the byte written at that index, every other index as before. -/
theorem Memory.lookup_write (m : Memory) (a b : Nat) (v : Byte) :
    Memory.lookup (Memory.write m a v) b = if b = a then some v else Memory.lookup m b := by
  induction m with
  | nil => simp [Memory.write, Memory.lookup, eq_comm (a := a)]
  | cons p m ih =>
    obtain ⟨k, c⟩ := p
    rcases Nat.lt_trichotomy a k with h | h | h
    · by_cases hb : b = a <;> simp [Memory.write, Memory.lookup, h, hb, eq_comm (a := a)]
    · subst h
      by_cases hb : b = a <;> simp [Memory.write, Memory.lookup, hb, eq_comm (a := a)]
    · have h1 : ¬ a < k := by omega
      have h2 : ¬ a = k := by omega
      by_cases hk : k = b
      · subst hk
        simp [Memory.write, Memory.lookup, h1, h2, Ne.symm h2]
      · simp [Memory.write, Memory.lookup, h1, h2, hk, ih]

/-- A write adds no index but the one written. -/
theorem Memory.mem_write {m : Memory} {a : Nat} {v : Byte} {p : Host.Cell} (h : p ∈ Memory.write m a v) :
    p = (a, v) ∨ p ∈ m := by
  induction m with
  | nil => simpa [Memory.write] using h
  | cons q m ih =>
    obtain ⟨k, c⟩ := q
    simp only [Memory.write] at h
    split at h
    · simpa using h
    · split at h
      · rcases List.mem_cons.1 h with h | h <;> simp [h]
      · rcases List.mem_cons.1 h with h | h
        · simp [h]
        · rcases ih h with h | h <;> simp [h]

/-- A write inside the space keeps the canonical form. -/
theorem Memory.write_wf {cap a : Nat} {m : Memory} (v : Byte) (hm : Memory.wf cap m) (ha : a < cap) :
    Memory.wf cap (Memory.write m a v) := by
  refine ⟨?_, fun p hp => ?_⟩
  · have hs := hm.1
    clear hm
    induction m with
    | nil => simp [Memory.write]
    | cons q m ih =>
      obtain ⟨k, c⟩ := q
      obtain ⟨hk, hs⟩ := List.pairwise_cons.1 hs
      simp only [Memory.write]
      split
      · rename_i hlt
        refine List.pairwise_cons.2 ⟨fun p hp => ?_, List.pairwise_cons.2 ⟨hk, hs⟩⟩
        rcases List.mem_cons.1 hp with rfl | hp
        · exact hlt
        · exact Nat.lt_trans hlt (hk p hp)
      · split
        · rename_i heq
          exact List.pairwise_cons.2 ⟨fun p hp => by simpa [heq] using hk p hp, hs⟩
        · refine List.pairwise_cons.2 ⟨fun p hp => ?_, ih hs⟩
          rcases Memory.mem_write hp with rfl | hp
          · show k < a
            omega
          · exact hk p hp
  · rcases Memory.mem_write hp with rfl | hp
    · exact ha
    · exact hm.2 p hp

/-- A lookup finds exactly the entries of a memory in canonical form. -/
theorem Memory.lookup_eq_some {m : Memory} (hs : m.Pairwise (fun p q => p.1 < q.1)) (a : Nat) (v : Byte) :
    Memory.lookup m a = some v ↔ (a, v) ∈ m := by
  induction m with
  | nil => simp [Memory.lookup]
  | cons q m ih =>
    obtain ⟨k, c⟩ := q
    obtain ⟨hk, hs⟩ := List.pairwise_cons.1 hs
    by_cases h : k = a
    · subst h
      have : (k, v) ∉ m := fun hp => Nat.lt_irrefl k (hk (k, v) hp)
      simp [Memory.lookup, this, eq_comm]
    · have h' : ¬ a = k := fun h'' => h h''.symm
      simp [Memory.lookup, h, ih hs, h']

/-- Memories in canonical form that look up the same are the same list. -/
theorem Memory.ext_of_lookup {cap cap' : Nat} {m m' : Memory} (hm : Memory.wf cap m) (hm' : Memory.wf cap' m')
    (h : ∀ a, Memory.lookup m a = Memory.lookup m' a) : m = m' := by
  have hmem : ∀ p, p ∈ m ↔ p ∈ m' := fun p => by
    rw [← Memory.lookup_eq_some hm.1 p.1 p.2, ← Memory.lookup_eq_some hm'.1 p.1 p.2, h]
  have hnd : ∀ {l : Memory}, l.Pairwise (fun p q => p.1 < q.1) → l.Nodup := fun hl =>
    hl.imp fun {p q} (hpq : p.1 < q.1) (heq : p = q) => Nat.lt_irrefl q.1 (by rw [heq] at hpq; exact hpq)
  exact List.Perm.eq_of_pairwise (fun p q _ _ h1 h2 => absurd (Nat.lt_trans h1 h2) (Nat.lt_irrefl _))
    hm.1 hm'.1 ((List.perm_ext_iff_of_nodup (hnd hm.1) (hnd hm'.1)).2 hmem)

/-- The reset memory has the canonical form. -/
theorem Memory.reset_wf : Memory.wf State.reset.msgCap.val State.reset.msg := by
  simp [Memory.wf, State.reset]

/-- One message byte after one write. -/
theorem msgByte_write (s : State) (i a : Nat) (b : Byte) :
    msgByte { s with msg := Memory.write s.msg i b } a = if a = i then b else msgByte s a := by
  by_cases h : a = i <;> simp [msgByte, Memory.lookup_write, h]

end Sys2Proof.Machine
end

