-- ==== Sys2Proof/Laws/Step.lean ====
section
/-! SUPPORT. What a transition can do, said once: a command's transition (flags, what it leaves outside), a host
write of a register or of bytes, and one step as one of nine kinds. Later proofs case on these instead of
unfolding the step. -/

namespace Sys2Proof.Machine

/-! ## Reading spaces -/

/-- Every byte of a zeroed space reads 0. -/
theorem getD_zero_space (n a : Nat) : (Vector.replicate n (0 : Byte)).toList.getD a 0 = 0 := by
  by_cases h : a < n <;> simp [h]

theorem sameBytes_msg {s t : State} (h1 : t.msg = s.msg) (h2 : t.msgEpoch = s.msgEpoch) : SameBytes s t .msg := by
  intro a; simp [byteAt, msgByte, h1, h2]

theorem sameBytes_blk {s t : State} (h : t.blk = s.blk) : SameBytes s t .blk := by intro a; simp [byteAt, h]

theorem sameBytes_fb0 {s t : State} (h : t.fb0 = s.fb0) : SameBytes s t .fb0 := by intro a; simp [byteAt, h]

theorem sameBytes_fb1 {s t : State} (h : t.fb1 = s.fb1) : SameBytes s t .fb1 := by intro a; simp [byteAt, h]

theorem sameBytes_dout {s t : State} (h : t.dout = s.dout) : SameBytes s t .dout := by intro a; simp [byteAt, h]

/-! ## One command -/

/-- What a command can have done: it was refused by the lock, rejected, or completed; CLEAR completes. -/
theorem exec_next {i : Instr} {s t : State} (h : exec i s = .next t) :
    s.busy = false ∧
      ((s.err = true ∧ t = lockedReject s) ∨ (∃ c, s.err = false ∧ t = reject c s) ∨
       (∃ op, OpFrame op ∧ s.err = false ∧ t = complete (op s)) ∨ (i = .clear ∧ t = complete (clearOp s))) := by
  rcases exec_shape i with ⟨chk, op, he, -, hop⟩ | ⟨rfl, he⟩
  · rw [he] at h
    obtain ⟨hb, ⟨h1, h2⟩ | ⟨c, h1, _, h2⟩ | ⟨h1, _, h2⟩⟩ := command_next h
    · exact ⟨hb, .inl ⟨h1, h2⟩⟩
    · exact ⟨hb, .inr (.inl ⟨c, h1, h2⟩)⟩
    · exact ⟨hb, .inr (.inr (.inl ⟨op, hop, h1, h2⟩))⟩
  · rw [he] at h
    obtain ⟨hb, h⟩ := commandAlways_next h
    exact ⟨hb, .inr (.inr (.inr ⟨rfl, h⟩))⟩

/-- After a command no command is in progress, and it has completed or the CORE is in the error state. -/
theorem exec_next_flags {i : Instr} {s t : State} (h : exec i s = .next t) :
    t.running = none ∧ ((t.done = true ∧ t.err = false) ∨ (t.done = false ∧ t.err = true)) := by
  obtain ⟨hb, h⟩ := exec_next h
  have hr : s.running = none := by simpa [State.busy] using hb
  rcases h with ⟨h1, rfl⟩ | ⟨c, _, rfl⟩ | ⟨op, hop, h1, rfl⟩ | ⟨_, rfl⟩
  · exact ⟨hr, .inr ⟨rfl, h1⟩⟩
  · exact ⟨hr, .inr ⟨rfl, rfl⟩⟩
  · exact ⟨by simp [hop.running, hr], .inl ⟨rfl, by simpa [State.err, hop.rejected] using h1⟩⟩
  · exact ⟨hr, .inl ⟨rfl, rfl⟩⟩

/-- No command touches MSG or what stands outside the commands. -/
theorem exec_next_outside {i : Instr} {s t : State} (h : exec i s = .next t) : SameOutside s t ∧ t.msg = s.msg := by
  obtain ⟨-, ⟨-, rfl⟩ | ⟨c, -, rfl⟩ | ⟨op, hop, -, rfl⟩ | ⟨-, rfl⟩⟩ := exec_next h
  · exact ⟨⟨rfl, rfl, rfl, rfl⟩, rfl⟩
  · exact ⟨⟨rfl, rfl, rfl, rfl⟩, rfl⟩
  · exact ⟨by simpa [SameOutside] using hop.outside s, by simp [hop.msg]⟩
  · exact ⟨⟨rfl, rfl, rfl, rfl⟩, rfl⟩

/-- Whether a command completes depends on `LEN`, `BLKIDX`, `MSG_CAP` and the flags only. -/
theorem exec_done_congr {i : Instr} {s s' t : State} (h : exec i s = .next t) (hd : t.done = true)
    (h1 : s'.msgCap = s.msgCap) (h2 : s'.len = s.len) (h3 : s'.blkidx = s.blkidx) (hb : s'.busy = false)
    (he' : s'.err = false) : ∃ u, exec i s' = .next u ∧ u.done = true := by
  rcases exec_shape i with ⟨chk, op, he, hc, hop⟩ | ⟨rfl, he⟩
  · rw [he] at h
    obtain ⟨_, ⟨hh, rfl⟩ | ⟨c, _, _, rfl⟩ | ⟨hne, hchk, rfl⟩⟩ := command_next h
    · cases hd
    · cases hd
    · rw [he]; exact ⟨_, command_accept ⟨hb, he'⟩ ((hc s s' h1 h2 h3).trans hchk), rfl⟩
  · rw [he]; exact ⟨_, commandAlways_accept hb, rfl⟩

/-! ## Host writes -/

/-- A host write of bytes inside the space keeps the canonical form. -/
theorem writeBytes_wf {sp : Space} {s : State} {i : Nat} {bs : List Byte} (h : Memory.wf s.msgCap.val s.msg)
    (hl : bs = [] ∨ i + bs.length ≤ spaceSize s sp) : Memory.wf s.msgCap.val (writeBytes sp s i bs).msg := by
  induction bs generalizing s i with
  | nil => exact h
  | cons b bs ih =>
    simp only [List.cons_ne_nil, List.length_cons, false_or] at hl
    have hsz : spaceSize (writeByte s sp i b) sp = spaceSize s sp := by cases sp <;> simp [spaceSize]
    have := @ih (writeByte s sp i b) (i+1) ?_ (.inr (by rw [hsz]; omega))
    · simpa [writeBytes] using this
    · cases sp with
      | msg => exact Memory.write_wf _ h (show i < s.msgCap.val by simp only [spaceSize] at hl; omega)
      | _ => exact h

/-- A host write of bytes leaves everything but MSG and BLK. -/
theorem writeBytes_rest (sp : Space) (s : State) (i : Nat) (bs : List Byte) :
    ∃ m b, writeBytes sp s i bs = { s with msg := m, blk := b } := by
  induction bs generalizing s i with
  | nil => exact ⟨s.msg, s.blk, rfl⟩
  | cons b bs ih =>
    obtain ⟨m, k, h⟩ := ih (writeByte s sp i b) (i + 1)
    exact ⟨m, k, by rw [writeBytes, h]; cases sp <;> rfl⟩

/-- A host write of a register leaves everything but the engine files, `LEN` and `BLKIDX`. -/
theorem writeReg_rest (s : State) (r : RegName) (v : Word64) :
    ∃ m h1 h2 h3 k l b, writeReg s r v =
      { s with md5 := m, sha1 := h1, s32 := h2, s64 := h3, kec := k, len := l, blkidx := b } := by
  cases r <;> exact ⟨_, _, _, _, _, _, _, rfl⟩

/-! ## One step -/

/-- What one step can have done to the state, the input taken. -/
inductive StepKind (s : State) (t : State) : Prop where
  /-- A command's transition, of one just issued or of the one whose busy interval ends. -/
  | cmd (i : Instr) (s' : State) (hs : s' = s ∨ s.running = some i ∧ s' = { s with running := none })
      (h : exec i s' = .next t)
  /-- The same under `WAIT`, which reads `STATUS` then. -/
  | wait (i : Instr) (u : State) (hr : s.running = some i) (h : exec i { s with running := none } = .next u)
      (ht : t = { u with readOut := .reg ((statusWord u).setWidth 64) })
  /-- An illegal word. -/
  | illegal (h : illegalCommand s = .next t)
  /-- An accepted command begins its busy interval. -/
  | begin (i : Instr) (u : State) (h : exec i s = .next u) (hd : u.done = true) (ht : t = beginCommand i s)
  /-- A host write of a register. -/
  | write (reg : Nat) (v : Word64) (hb : s.busy = false) (r : RegName) (hr : regOfNumber reg = some r)
      (ht : t = writeReg s r v)
  /-- A host write of bytes. -/
  | bytes (sp : Space) (i : Nat) (bs : List Byte) (hb : s.busy = false)
      (hl : bs = [] ∨ i + bs.length ≤ spaceSize s sp) (ht : t = writeBytes sp s i bs)
  /-- A host read. -/
  | read (d : HostData) (ht : t = { s with readOut := d })
  /-- Reset. -/
  | reset (ht : t = resetEvent s)
  /-- Nothing: an idle step, or a write of an unassigned register number. -/
  | same (ht : t = s)

theorem busyEnds_kind {s t : State} (h : busyEnds s = .next t) : StepKind s t := by
  unfold busyEnds at h
  split at h
  · rename_i i hr
    exact .cmd i _ (.inr ⟨hr, rfl⟩) h
  · cases h; exact .same rfl

theorem issue_kind {s t : State} {w} (h : issue w s = .next t) : StepKind s t := by
  unfold issue at h
  split at h
  · exact .cmd _ s (.inl rfl) h
  · exact .illegal h

theorem hostStep_kind {e} {s t : State} (h : hostStep e s = .next t) : StepKind s t := by
  cases e with
  | wr reg v =>
    simp only [hostStep] at h
    split at h
    · unfold writeCmd at h
      split at h
      · cases h
      · split at h
        · exact issue_kind h
        · cases h
    · unfold hostWrite at h
      split at h
      · cases h
      · rename_i hb
        split at h
        · cases h; exact .same rfl
        · rename_i r hr
          split at h
          · cases h; exact .write reg v (by simpa using hb) r hr rfl
          · cases h
  | rd reg =>
    simp only [hostStep, hostRead] at h
    split at h
    · cases h
    · cases h; exact .read _ rfl
  | wrb sp i bs =>
    simp only [hostStep, hostWriteBytes] at h
    split at h
    · cases h
    · rename_i hb
      split at h
      · rename_i hl
        cases h; exact .bytes sp i bs (by simpa using hb) hl rfl
      · cases h
  | rdb sp i j =>
    simp only [hostStep, hostReadBytes] at h
    split at h
    · cases h
    · split at h
      · cases h; exact .read _ rfl
      · cases h
  | issue w => exact issue_kind h
  | issueLong w =>
    simp only [hostStep, issueLong] at h
    split at h
    · rename_i i hd
      split at h
      · rename_i u hu
        split at h
        · rename_i hdn
          cases h; exact .begin i u hu hdn rfl
        · cases h; exact .cmd i s (.inl rfl) hu
      · rename_i hx
        exact absurd h (hx t)
    · exact .illegal h
  | wait =>
    simp only [hostStep, hostWait] at h
    split at h
    · rename_i u hu
      cases h
      unfold busyEnds at hu
      split at hu
      · rename_i i hr
        exact .wait i u hr hu rfl
      · cases hu; exact .read _ rfl
    · rename_i hx
      exact absurd h (hx t)
  | busyEnds => exact busyEnds_kind h
  | reset => simp only [hostStep] at h; cases h; exact .reset rfl

/-- Every step is of one of the kinds, on the state with its input taken. -/
theorem step_kind {s t : State} (h : step s = .next t) :
    StepKind s t ∧ s.host = [] ∨ ∃ e rest, s.host = e :: rest ∧ hostStep e { s with host := rest } = .next t := by
  unfold step at h
  split at h
  · rename_i hh; exact .inl ⟨busyEnds_kind h, hh⟩
  · rename_i e rest hh
    exact .inr ⟨e, rest, hh, h⟩

end Sys2Proof.Machine
end

