-- ==== Sys2Proof/Laws/Host.lean ====
section
/-! SUPPORT. The host's accesses: register numbers (R17, R21), a register and a byte read after a write (R28,
R56), what a command in progress refuses (R200), and a host program run input by input (R56). -/

namespace Sys2Proof.Machine

/-! ## Register numbers -/

/-- The number of a register (R17, R21). -/
def numberOfReg : RegName → Nat
  | .cmd => 0x00 | .status => 0x01 | .len => 0x02 | .blkidx => 0x03 | .nfull => 0x04 | .padst => 0x05 | .dlen => 0x06
  | .md5 i => 0x10 + i.val | .sha1 i => 0x18 + i.val | .s32 i => 0x20 + i.val | .s64 i => 0x30 + i.val
  | .kec i => 0x40 + i.val

theorem regOfNumber_high {n : Nat} (h : 0x59 ≤ n) : regOfNumber n = none := by
  unfold regOfNumber
  rw [if_neg (by omega), if_neg (by omega), if_neg (by omega), if_neg (by omega), if_neg (by omega), if_neg (by omega),
    if_neg (by omega), dif_neg (by omega), dif_neg (by omega), dif_neg (by omega), dif_neg (by omega),
    dif_neg (by omega)]

/-- A register has one number. -/
theorem numberOfReg_of {n : Nat} {r : RegName} (h : regOfNumber n = some r) : numberOfReg r = n := by
  have key : ∀ n : Fin 0x59, (regOfNumber n).all (fun r => numberOfReg r == n.val) = true := by decide
  by_cases hn : n < 0x59
  · simpa [h] using key ⟨n, hn⟩
  · rw [regOfNumber_high (by omega)] at h
    cases h

/-- The unassigned numbers (R21). -/
theorem regOfNumber_none (n : Nat) : regOfNumber n = none ↔
    (0x07 ≤ n ∧ n ≤ 0x0F) ∨ (0x14 ≤ n ∧ n ≤ 0x17) ∨ (0x1D ≤ n ∧ n ≤ 0x1F) ∨ (0x28 ≤ n ∧ n ≤ 0x2F) ∨
      (0x38 ≤ n ∧ n ≤ 0x3F) ∨ 0x59 ≤ n := by
  have key : ∀ n : Fin 0x59, regOfNumber n.val = none ↔
      (0x07 ≤ n.val ∧ n.val ≤ 0x0F) ∨ (0x14 ≤ n.val ∧ n.val ≤ 0x17) ∨ (0x1D ≤ n.val ∧ n.val ≤ 0x1F) ∨
        (0x28 ≤ n.val ∧ n.val ≤ 0x2F) ∨ (0x38 ≤ n.val ∧ n.val ≤ 0x3F) ∨ 0x59 ≤ n.val := by decide
  by_cases hn : n < 0x59
  · exact key ⟨n, hn⟩
  · rw [regOfNumber_high (by omega)]
    simp
    omega

theorem getElem_set_fin {α : Type} {n : Nat} (v : Vector α n) (i j : Fin n) (x : α) :
    (v.set i x)[j] = if i = j then x else v[j] := by
  simp only [Fin.getElem_fin, Vector.getElem_set]
  simp [Fin.ext_iff]

/-- A register read after a write of a writable register (R17, R21). -/
theorem readReg_writeReg (s : State) (r q : RegName) (v : Word64) (hv : v.toNat < 2 ^ regWidth r)
    (hr : r ∉ [RegName.cmd, .status, .nfull, .padst, .dlen]) :
    readReg (writeReg s r v) q = if q = r then v else readReg s q := by
  have e32 : v.toNat < 2 ^ 32 → (v.setWidth 32).setWidth 64 = v := fun h => by
    apply BitVec.eq_of_toNat_eq
    simp
    omega
  cases r
  case cmd | status | nfull | padst | dlen => simp at hr
  case len =>
    cases q <;> simp [writeReg, readReg, padstWord, statusWord, State.busy, State.err, State.code, dlenWord]
  case blkidx =>
    cases q <;> simp [writeReg, readReg, padstWord, statusWord, State.busy, State.err, State.code, dlenWord]
  all_goals
    rename_i i
    cases q
    all_goals first
      | (simp [writeReg, readReg, padstWord, statusWord, State.busy, State.err, State.code, dlenWord]; done)
      | skip
    rename_i j
    simp only [writeReg, readReg, getElem_set_fin]
    by_cases h : i = j
    · subst h
      simp
      try exact e32 hv
    · simp [h, Ne.symm h]

/-! ## Bytes -/

/-- A byte read after a write of one byte (R28). -/
theorem byteAt_writeByte (s : State) (sp sp' : Space) (i a : Nat) (b : Byte) (hs : sp ∈ [Space.msg, .blk])
    (hi : i < spaceSize s sp) :
    byteAt (writeByte s sp i b) sp' a = if sp' = sp ∧ a = i then b else byteAt s sp' a := by
  cases sp
  case fb0 | fb1 | dout => simp at hs
  case msg => cases sp' <;> simp [byteAt, writeByte, msgByte_write]
  case blk =>
    cases sp'
    case blk =>
      simp only [spaceSize] at hi
      by_cases h : a = i
      · subst h
        simp [byteAt, writeByte, hi]
      · simp [byteAt, writeByte, h, List.getElem?_set_ne (Ne.symm h)]
    all_goals simp [byteAt, writeByte, msgByte]

/-- A byte read after a write of bytes inside a writable space (R28, R56). -/
theorem byteAt_writeBytes (s : State) (sp sp' : Space) (i a : Nat) (bs : List Byte) (hs : sp ∈ [Space.msg, .blk])
    (hi : i + bs.length ≤ spaceSize s sp) : byteAt (writeBytes sp s i bs) sp' a =
      if sp' = sp ∧ i ≤ a ∧ a < i + bs.length then bs.getD (a - i) 0 else byteAt s sp' a := by
  induction bs generalizing s i with
  | nil =>
    rw [if_neg (by simp)]
    rfl
  | cons b bs ih =>
    simp only [List.length_cons] at hi ⊢
    have hsz : spaceSize (writeByte s sp i b) sp = spaceSize s sp := by cases sp <;> simp [spaceSize]
    rw [writeBytes, ih _ _ (by rw [hsz]; omega), byteAt_writeByte _ _ _ _ _ _ hs (by omega)]
    by_cases h1 : sp' = sp
    · subst h1
      by_cases h2 : a = i
      · subst h2
        rw [if_neg (by simp), if_pos (by simp), if_pos (by simp)]
        simp
      · by_cases h3 : i + 1 ≤ a ∧ a < i + 1 + bs.length
        · rw [if_pos (by simp; omega), if_pos (by simp; omega), show a - i = a - (i + 1) + 1 by omega,
            List.getD_cons_succ]
        · rw [if_neg (by simp; omega), if_neg (by simp; omega), if_neg (by simp; omega)]
    · simp [h1]

/-- A write to a space the host cannot write changes nothing (R28). -/
theorem writeBytes_ignored (s : State) (sp : Space) (i : Nat) (bs : List Byte) (hs : sp ∈ [Space.fb0, .fb1, .dout]) :
    writeBytes sp s i bs = s := by
  induction bs generalizing i with
  | nil => rfl
  | cons b bs ih => cases sp <;> simp at hs <;> exact ih _

/-! ## While a command is in progress -/

theorem exec_busy (i : Instr) (s : State) (hb : s.busy = true) : exec i s = .refused .accessWhileBusy := by
  rcases exec_shape i with ⟨chk, op, he, -, -⟩ | ⟨rfl, he⟩
  · rw [he]
    exact command_busy hb
  · rw [he]
    simp [commandAlways, hb]

theorem issue_busy (w : Word32) (s : State) (hb : s.busy = true) : issue w s = .refused .accessWhileBusy := by
  unfold issue
  split
  · exact exec_busy _ _ hb
  · exact command_busy hb

/-- A command that completes as one transition gives the same state at the end of its busy interval (R188,
R200). -/
theorem exec_after_begin {i : Instr} {s t : State} (h : exec i s = .next t) (hd : t.done = true) :
    exec i { beginCommand i s with running := none } = .next t := by
  rcases exec_shape i with ⟨chk, op, he, hc, hop⟩ | ⟨rfl, he⟩
  · rw [he] at h ⊢
    obtain ⟨hb, ⟨_, rfl⟩ | ⟨c, _, _, rfl⟩ | ⟨hne, hchk, rfl⟩⟩ := command_next h
    · simp at hd
    · simp at hd
    · have hs : { beginCommand i s with running := none } = { s with done := false } := by
        have h1 : s.running = none := by simpa [State.busy] using hb
        have h2 : s.rejected = none := by simpa [State.err] using hne
        cases s
        simp_all [beginCommand]
      rw [hs, command_accept (s := { s with done := false }) ⟨hb, hne⟩
        ((hc s { s with done := false } rfl rfl rfl).trans hchk), hop.done]
  · rw [he] at h ⊢
    obtain ⟨hb, rfl⟩ := commandAlways_next h
    have h1 : s.running = none := by simpa [State.busy] using hb
    rw [commandAlways_accept rfl]
    cases s
    simp_all [beginCommand, clearOp, complete]

/-! ## Host programs -/

theorem runInputs_append (xs ys : List HostOp) (s : State) : runInputs (xs ++ ys) s =
    match runInputs xs s with
    | .next t => runInputs ys t
    | o => o := by
  unfold runInputs
  rw [List.foldl_append]
  generalize List.foldl _ _ xs = o
  cases o with
  | next t => rfl
  | fault f =>
    induction ys with
    | nil => rfl
    | cons y ys ih => exact ih
  | refused f =>
    induction ys with
    | nil => rfl
    | cons y ys ih => exact ih

theorem runInputs_cons {e : HostOp} {xs : List HostOp} {s t : State} (h : hostStep e { s with host := [] } = .next t) :
    runInputs (e :: xs) s = runInputs xs t := by
  show List.foldl _ (step { s with host := [e] }) xs = _
  rw [show step { s with host := [e] } = .next t from h]
  rfl

/-- A statement that issues a command's word runs the command (R22, R56). -/
theorem runInputs_issue {i : Instr} {xs : List HostOp} {s t : State} (h : exec i { s with host := [] } = .next t) :
    runInputs (.issue (encode i) :: xs) s = runInputs xs t := by
  apply runInputs_cons
  have hd : decode (encode i) = .ok i := by cases i <;> rfl
  show issue (encode i) _ = _
  simp only [issue, hd]
  exact h

end Sys2Proof.Machine
end

