-- ==== Sys2Proof/Laws/Words.lean ====
section
/-! SUPPORT. The words and lanes of a block byte by byte (R33, R34), serialized words byte by byte (R35),
rotates (R10), and the two list recursions the units are made of: a fold over the steps, and a schedule that
grows by one word at a time. -/

namespace Sys2Proof.Machine

/-! ## Rotates -/

/-- `rotl_W` for n < W (R10). -/
theorem rotl_eq {w : Nat} (a : BitVec w) (n : Nat) (h : n < w) : rotl a n = a.rotateLeft n := by
  rw [BitVec.rotateLeft_def, Nat.mod_eq_of_lt h]
  rfl

/-- `rotr_W` for n < W (R10). -/
theorem rotr_eq {w : Nat} (a : BitVec w) (n : Nat) (h : n < w) : rotr a n = a.rotateRight n := by
  unfold rotr
  rw [BitVec.rotateRight_def, Nat.mod_eq_of_lt h]
  by_cases h0 : n = 0
  · subst h0
    simp [rotl, BitVec.ushiftRight_eq_zero (Nat.le_refl w)]
  · rw [Nat.mod_eq_of_lt (by omega)]
    unfold rotl
    rw [show w - (w - n) = n by omega, BitVec.or_comm]

/-! ## Sequences -/

/-- One more step of a fold over the step numbers. -/
theorem fold_range_succ {β : Type} (f : β → Nat → β) (b : β) (n : Nat) :
    (List.range (n + 1)).foldl f b = f ((List.range n).foldl f b) n := by
  rw [List.range_succ, List.foldl_append]
  rfl

theorem zeros_add (m n : Nat) : zeros (m + n) = zeros m ++ zeros n := by simp [zeros]

theorem getD_zeros (n i : Nat) : (zeros n).getD i 0 = 0 := by
  by_cases h : i < n <;> simp [zeros, h]

theorem getD_take (l : List Byte) (n k : Nat) : (l.take n).getD k 0 = if k < n then l.getD k 0 else 0 := by
  by_cases h : k < n <;> simp [h]

theorem getElem_fillSpace (l : List Byte) (n : Nat) (k : Fin n) : (fillSpace n l)[k] = l.getD k.val 0 := by
  simp [fillSpace]

/-- The first bytes of a space after a whole-space write are the sequence written. -/
theorem take_fillSpace (n : Nat) (l : List Byte) (h : l.length ≤ n) : (fillSpace n l).toList.take l.length = l := by
  rw [toList_fillSpace _ _ h]
  simp

/-- `s[i .. i+n)`, its bytes one by one. -/
theorem slice_eq (B : List Byte) (i n : Nat) (h : i + n ≤ B.length) :
    slice B i n = (List.range n).map fun k => B.getD (i + k) 0 := by
  apply List.ext_getElem
  · simp [slice]
    omega
  · intro k h1 h2
    have hk : i + k < B.length := by
      simp at h2
      omega
    simp [slice, hk]

/-- Byte k of words serialized one after another, `w` bytes each (R35). -/
theorem getD_flatMap {α : Type} (f : α → List Byte) (w : Nat) (hw : 0 < w) (hf : ∀ a, (f a).length = w) (l : List α)
    (k : Nat) (d : α) (hk : k < w * l.length) :
    (l.flatMap f).getD k 0 = (f (l.getD (k / w) d)).getD (k % w) 0 := by
  induction l generalizing k with
  | nil => simp at hk
  | cons a l ih =>
    rw [List.flatMap_cons]
    by_cases h : k < w
    · rw [List.getD_append _ _ _ _ (by rw [hf]; exact h)]
      simp [Nat.div_eq_of_lt h, Nat.mod_eq_of_lt h]
    · have hk' : k - w < w * l.length := by
        simp only [List.length_cons, Nat.mul_add, Nat.mul_one] at hk
        omega
      rw [List.getD_append_right _ _ _ _ (by rw [hf]; omega), hf, ih _ hk']
      have h1 : k / w = (k - w) / w + 1 := by rw [Nat.div_eq k w, if_pos ⟨hw, by omega⟩]
      have h2 : k % w = (k - w) % w := Nat.mod_eq_sub_mod (by omega)
      rw [h1, h2, List.getD_cons_succ]

/-- Byte k of a word written little-endian (R8). -/
theorem getD_toLe {W : Nat} (v : BitVec W) (n k : Nat) (hk : k < n) :
    (toLe v.toNat n).getD k 0 = v.extractLsb' (8 * k) 8 := by
  rw [List.getD_eq_getElem _ _ (by simpa using hk), getElem_toLe]
  apply BitVec.eq_of_toNat_eq
  simp only [BitVec.toNat_ofNat, BitVec.extractLsb'_toNat, Nat.shiftRight_eq_div_pow]
  rw [Nat.pow_mul]

/-- Byte k of a word written big-endian (R8). -/
theorem getD_toBe {W : Nat} (v : BitVec W) (n k : Nat) (hk : k < n) :
    (toBe v.toNat n).getD k 0 = v.extractLsb' (8 * (n - 1 - k)) 8 := by
  rw [List.getD_eq_getElem _ _ (by simpa using hk), getElem_toBe]
  apply BitVec.eq_of_toNat_eq
  simp only [BitVec.toNat_ofNat, BitVec.extractLsb'_toNat, Nat.shiftRight_eq_div_pow]
  rw [Nat.pow_mul]

/-! ## The words of a block -/

/-- Four bytes read little-endian. -/
theorem ofNat_leNat4 (a b c d : Byte) : BitVec.ofNat 32 (leNat [a, b, c, d]) = d ++ c ++ b ++ a := by
  apply BitVec.eq_of_toNat_eq
  have := a.isLt; have := b.isLt; have := c.isLt; have := d.isLt
  simp only [leNat, BitVec.toNat_ofNat, BitVec.toNat_append]
  rw [← Nat.shiftLeft_add_eq_or_of_lt (by omega), ← Nat.shiftLeft_add_eq_or_of_lt (by omega),
    ← Nat.shiftLeft_add_eq_or_of_lt (by omega)]
  simp only [Nat.shiftLeft_eq]
  omega

/-- Eight bytes read little-endian. -/
theorem ofNat_leNat8 (a b c d e f g h : Byte) :
    BitVec.ofNat 64 (leNat [a, b, c, d, e, f, g, h]) = h ++ g ++ f ++ e ++ d ++ c ++ b ++ a := by
  apply BitVec.eq_of_toNat_eq
  have := a.isLt; have := b.isLt; have := c.isLt; have := d.isLt
  have := e.isLt; have := f.isLt; have := g.isLt; have := h.isLt
  simp only [leNat, BitVec.toNat_ofNat, BitVec.toNat_append]
  rw [← Nat.shiftLeft_add_eq_or_of_lt (by omega), ← Nat.shiftLeft_add_eq_or_of_lt (by omega),
    ← Nat.shiftLeft_add_eq_or_of_lt (by omega), ← Nat.shiftLeft_add_eq_or_of_lt (by omega),
    ← Nat.shiftLeft_add_eq_or_of_lt (by omega), ← Nat.shiftLeft_add_eq_or_of_lt (by omega),
    ← Nat.shiftLeft_add_eq_or_of_lt (by omega)]
  simp only [Nat.shiftLeft_eq]
  omega

@[simp] theorem length_wordsBe32 (B : List Byte) : (wordsBe32 B).length = 16 := by simp [wordsBe32]

@[simp] theorem length_wordsLe32 (B : List Byte) : (wordsLe32 B).length = 16 := by simp [wordsLe32]

@[simp] theorem length_wordsBe64 (B : List Byte) : (wordsBe64 B).length = 16 := by simp [wordsBe64]

/-- Word g of a block of U1 (R33). -/
theorem getD_wordsLe32 (B : List Byte) (hB : B.length = 64) (g : Nat) (hg : g < 16) : (wordsLe32 B).getD g 0 =
    B.getD (4 * g + 3) 0 ++ B.getD (4 * g + 2) 0 ++ B.getD (4 * g + 1) 0 ++ B.getD (4 * g) 0 := by
  rw [List.getD_eq_getElem _ _ (by simpa using hg)]
  simp only [wordsLe32, List.getElem_map, List.getElem_range]
  rw [slice_eq _ _ _ (by omega)]
  exact ofNat_leNat4 _ _ _ _

/-- Word g of a block of U2 or U3 (R33). -/
theorem getD_wordsBe32 (B : List Byte) (hB : B.length = 64) (g : Nat) (hg : g < 16) : (wordsBe32 B).getD g 0 =
    B.getD (4 * g) 0 ++ B.getD (4 * g + 1) 0 ++ B.getD (4 * g + 2) 0 ++ B.getD (4 * g + 3) 0 := by
  rw [List.getD_eq_getElem _ _ (by simpa using hg)]
  simp only [wordsBe32, beNat, List.getElem_map, List.getElem_range]
  rw [slice_eq _ _ _ (by omega)]
  exact ofNat_leNat4 _ _ _ _

/-- Word g of a block of U4 (R33). -/
theorem getD_wordsBe64 (B : List Byte) (hB : B.length = 128) (g : Nat) (hg : g < 16) : (wordsBe64 B).getD g 0 =
    B.getD (8 * g) 0 ++ B.getD (8 * g + 1) 0 ++ B.getD (8 * g + 2) 0 ++ B.getD (8 * g + 3) 0 ++
      B.getD (8 * g + 4) 0 ++ B.getD (8 * g + 5) 0 ++ B.getD (8 * g + 6) 0 ++ B.getD (8 * g + 7) 0 := by
  rw [List.getD_eq_getElem _ _ (by simpa using hg)]
  simp only [wordsBe64, beNat, List.getElem_map, List.getElem_range]
  rw [slice_eq _ _ _ (by omega)]
  exact ofNat_leNat8 _ _ _ _ _ _ _ _

/-- Lane i of a sponge block (R34). -/
theorem laneLe64_eq (B : List Byte) (i : Nat) (h : 8 * i + 8 ≤ B.length) : laneLe64 B i =
    B.getD (8 * i + 7) 0 ++ B.getD (8 * i + 6) 0 ++ B.getD (8 * i + 5) 0 ++ B.getD (8 * i + 4) 0 ++
      B.getD (8 * i + 3) 0 ++ B.getD (8 * i + 2) 0 ++ B.getD (8 * i + 1) 0 ++ B.getD (8 * i) 0 := by
  rw [laneLe64, slice_eq _ _ _ h]
  exact ofNat_leNat8 _ _ _ _ _ _ _ _

/-! ## Schedules -/

/-- A schedule that grows word by word: its first words are the block's, and every later word is the rule's,
which looks at earlier words only (R82, R91, R103). -/
theorem schedule_spec {α : Type} (next : List α → Nat → α) (d : α) (W : List α) (m : Nat)
    (hloc : ∀ w x t, t = w.length → W.length ≤ t → next (w ++ x) t = next w t) :
    let S := (List.range' W.length m).foldl (fun w t => w ++ [next w t]) W
    S.length = W.length + m ∧ (∀ t < W.length, S.getD t d = W.getD t d) ∧
      ∀ t, W.length ≤ t → t < W.length + m → S.getD t d = next S t := by
  induction m with
  | zero =>
    simp only [List.range'_zero, List.foldl_nil, Nat.add_zero, true_and]
    exact ⟨fun _ _ => trivial, fun t h1 h2 => by omega⟩
  | succ m ih =>
    obtain ⟨h1, h2, h3⟩ := ih
    simp only [List.range'_concat, List.foldl_append, List.foldl_cons, List.foldl_nil, Nat.one_mul]
    generalize (List.range' W.length m).foldl (fun w t => w ++ [next w t]) W = S at h1 h2 h3
    refine ⟨by simp [h1]; omega, fun t ht => ?_, fun t ht1 ht2 => ?_⟩
    · rw [List.getD_append _ _ _ _ (by omega), h2 t ht]
    · by_cases h : t < W.length + m
      · have e : S ++ [next S (W.length + m)] = S.take t ++ (S.drop t ++ [next S (W.length + m)]) := by
          rw [← List.append_assoc, List.take_append_drop]
        rw [List.getD_append _ _ _ _ (by omega), h3 t ht1 h, e, hloc _ _ t (by simp; omega) ht1]
        conv_lhs => rw [← List.take_append_drop t S]
        rw [hloc _ _ t (by simp; omega) ht1]
      · obtain rfl : t = W.length + m := by omega
        rw [List.getD_append_right _ _ _ _ (by omega), h1]
        simp only [Nat.sub_self, List.getD_cons_zero]
        rw [hloc _ _ _ h1.symm (by omega)]

/-- The SHA-1 schedule rule looks back only (R82). -/
theorem sha1NextWord_append (w x : List Word32) (t : Nat) (ht : t = w.length) (h : 16 ≤ t) :
    sha1NextWord (w ++ x) t = sha1NextWord w t := by
  have g : ∀ k, 0 < k → (w ++ x).getD (t - k) 0 = w.getD (t - k) 0 := fun k hk =>
    List.getD_append _ _ _ _ (by omega)
  simp only [sha1NextWord]
  rw [g 3 (by omega), g 8 (by omega), g 14 (by omega), g 16 (by omega)]

/-- The SHA-2 schedule rule looks back only (R91, R103). -/
theorem sha2NextWord_append {n : Nat} (U : Sha2Unit n) (w x : List (BitVec n)) (t : Nat) (ht : t = w.length)
    (h : 16 ≤ t) : sha2NextWord U (w ++ x) t = sha2NextWord U w t := by
  have g : ∀ k, 0 < k → (w ++ x).getD (t - k) 0 = w.getD (t - k) 0 := fun k hk =>
    List.getD_append _ _ _ _ (by omega)
  simp only [sha2NextWord]
  rw [g 2 (by omega), g 7 (by omega), g 15 (by omega), g 16 (by omega)]

end Sys2Proof.Machine
end

