-- ==== Sys2Proof/Laws/Keccak.lean ====
section
/-! SUPPORT. The permutation engine: lanes of the sets it builds (R113, R115), lengths, its rounds one by one
(R116), and the lanes a block is XORed into (R121). -/

namespace Sys2Proof.Machine

theorem lane_map (f : Nat → Word64) (n i : Nat) (h : i < n) : lane ((List.range n).map f) i = f i := by
  simp [lane, h]

theorem lane_set_eq (B : Lanes) (k : Nat) (v : Word64) (h : k < B.length) : lane (B.set k v) k = v := by
  simp [lane, h]

theorem lane_set_ne (B : Lanes) (k i : Nat) (v : Word64) (h : k ≠ i) : lane (B.set k v) i = lane B i := by
  simp [lane, List.getElem?_set_ne h]

/-- The wiring stays inside the 25 lanes (R113). -/
theorem keccakP_lt (i : Fin 25) : keccakP.getD i 0 < 25 := by revert i; decide

/-- No two lanes go to one place (R113). -/
theorem keccakP_inj (i j : Fin 25) : keccakP.getD i 0 = keccakP.getD j 0 → i = j := by revert i j; decide

/-- Every rotate amount is below 64 (R113). -/
theorem keccakR_lt (i : Fin 25) : keccakR.getD i 0 < 64 := by revert i; decide

@[simp] theorem keccakRound_length (A : Lanes) (rc : Word64) : (keccakRound A rc).length = 25 := by
  simp [keccakRound, keccakIota, keccakChi]

/-- One more round (R116). -/
theorem keccakRounds_succ (n : Nat) (A : Lanes) (h : n < 24) :
    keccakRounds (n + 1) A = keccakRound (keccakRounds n A) (keccakRc.getD n 0) := by
  have hn : n < keccakRc.length := h
  have e : keccakRc.take (n + 1) = keccakRc.take n ++ [keccakRc.getD n 0] := by
    rw [List.take_succ_eq_append_getElem hn, List.getD_eq_getElem _ _ hn]
  simp only [keccakRounds, e, List.foldl_append]
  rfl

/-- Lane i of a set XORed with a block (R121). -/
theorem getElem_xorBlock (r : Nat) (A : Vector Word64 25) (B : List Byte) (i : Fin 25) :
    (xorBlock r A B)[i] = if i.val < r / 8 then A[i] ^^^ laneLe64 B i.val else A[i] := by simp [xorBlock]

end Sys2Proof.Machine
end

