-- ==== Sys2Proof/Laws/Padder.lean ====
section
/-! SUPPORT. The padders: sizes of the parameter table, lengths of the blocks they build, and when a second
final block is needed (R51, R57, R122). -/

namespace Sys2Proof.Machine

theorem blockSize_pos (a : MdAlg) : 0 < blockSize a := by cases a <;> decide

theorem blockSize_le (a : MdAlg) : blockSize a ≤ 128 := by cases a <;> decide

theorem rate_pos (a : SpongeAlg) : 0 < rate a := by cases a <;> decide

theorem rate_le (a : SpongeAlg) : rate a ≤ 144 := by cases a <;> decide

/-- Delimiter, suffix and the room before them fill a block (R57). -/
theorem blockSize_split (a : MdAlg) : blockSize a - 1 - suffixSize a + 1 + suffixSize a = blockSize a := by
  cases a <;> decide

theorem mdOutLen_le (a : MdAlg) : mdOutLen a ≤ 64 := by cases a <;> decide

theorem spongeOutLen_le (a : SpongeAlg) : spongeOutLen a ≤ 64 := by cases a <;> decide

theorem remainder_lt {n : Nat} (h : 0 < n) (s : State) : remainder n s < n := Nat.mod_lt _ h

@[simp] theorem length_tail (n : Nat) (s : State) : (tail n s).length = remainder n s := by simp [tail]

/-- The suffix, in the words of R57. -/
theorem suffix_eq (a : MdAlg) (n : Nat) :
    suffix a n = if a = .md5 then toLe (8 * n) 8 else toBe (8 * n) (suffixSize a) := by
  cases a <;> rfl

@[simp] theorem length_suffix (a : MdAlg) (n : Nat) : (suffix a n).length = suffixSize a := by
  cases a <;> simp [suffix, suffixSize]

theorem needsSecond_true (a : MdAlg) (s : State) :
    needsSecond a s = true ↔ blockSize a - 1 - suffixSize a < remainder (blockSize a) s := by
  simp [needsSecond]

theorem needsSecond_false (a : MdAlg) (s : State) :
    needsSecond a s = false ↔ remainder (blockSize a) s ≤ blockSize a - 1 - suffixSize a := by
  simp [needsSecond]

@[simp] theorem length_finalBlock0 (a : MdAlg) (s : State) : (finalBlock0 a s).length = blockSize a := by
  have h1 := remainder_lt (blockSize_pos a) s
  have h2 := blockSize_split a
  cases hn : needsSecond a s
  · have h3 := (needsSecond_false a s).1 hn
    simp [finalBlock0, hn]
    omega
  · simp [finalBlock0, hn]
    omega

@[simp] theorem length_finalBlock1 (a : MdAlg) (s : State) : (finalBlock1 a s).length = blockSize a := by
  have h2 := blockSize_split a
  cases hn : needsSecond a s
  · simp [finalBlock1, hn]
  · simp [finalBlock1, hn]
    omega

@[simp] theorem length_xorByte (B : List Byte) (i : Nat) (v : Byte) : (xorByte B i v).length = B.length := by
  simp [xorByte]

/-- Byte j after byte i is XORed. -/
theorem getD_xorByte (B : List Byte) (i j : Nat) (v : Byte) (hi : i < B.length) :
    (xorByte B i v).getD j 0 = if j = i then B.getD i 0 ^^^ v else B.getD j 0 := by
  by_cases h : j = i
  · subst h; simp [xorByte, hi]
  · simp [xorByte, h, Ne.symm h]

@[simp] theorem length_spongeFinalBlock (a : SpongeAlg) (s : State) : (spongeFinalBlock a s).length = rate a := by
  have := remainder_lt (rate_pos a) s
  simp [spongeFinalBlock]
  omega

end Sys2Proof.Machine
end

