-- ==== Sys2Proof/Laws/PerInstr.lean ====
section
/-! SUPPORT. The per-instruction family EncodeLegal: the word the encoder gives each command meets the legality
predicate of R54. -/

namespace Sys2Proof.Laws

/-- The word of the command is legal (R54). -/
def EncodeLegal.Statement (i : Instr) : Prop := (Fields.ofWord (encode i)).legal = true

theorem EncodeLegal.digestMd5 : EncodeLegal.Statement .digestMd5 := rfl
theorem EncodeLegal.digestSha1 : EncodeLegal.Statement .digestSha1 := rfl
theorem EncodeLegal.digestSha224 : EncodeLegal.Statement .digestSha224 := rfl
theorem EncodeLegal.digestSha256 : EncodeLegal.Statement .digestSha256 := rfl
theorem EncodeLegal.digestSha384 : EncodeLegal.Statement .digestSha384 := rfl
theorem EncodeLegal.digestSha512 : EncodeLegal.Statement .digestSha512 := rfl
theorem EncodeLegal.digestSha3_224 : EncodeLegal.Statement .digestSha3_224 := rfl
theorem EncodeLegal.digestSha3_256 : EncodeLegal.Statement .digestSha3_256 := rfl
theorem EncodeLegal.digestSha3_384 : EncodeLegal.Statement .digestSha3_384 := rfl
theorem EncodeLegal.digestSha3_512 : EncodeLegal.Statement .digestSha3_512 := rfl
theorem EncodeLegal.digestKeccak224 : EncodeLegal.Statement .digestKeccak224 := rfl
theorem EncodeLegal.digestKeccak256 : EncodeLegal.Statement .digestKeccak256 := rfl
theorem EncodeLegal.digestKeccak384 : EncodeLegal.Statement .digestKeccak384 := rfl
theorem EncodeLegal.digestKeccak512 : EncodeLegal.Statement .digestKeccak512 := rfl
theorem EncodeLegal.initMd5 : EncodeLegal.Statement .initMd5 := rfl
theorem EncodeLegal.initSha1 : EncodeLegal.Statement .initSha1 := rfl
theorem EncodeLegal.initSha224 : EncodeLegal.Statement .initSha224 := rfl
theorem EncodeLegal.initSha256 : EncodeLegal.Statement .initSha256 := rfl
theorem EncodeLegal.initSha384 : EncodeLegal.Statement .initSha384 := rfl
theorem EncodeLegal.initSha512 : EncodeLegal.Statement .initSha512 := rfl
theorem EncodeLegal.initSha3_224 : EncodeLegal.Statement .initSha3_224 := rfl
theorem EncodeLegal.initSha3_256 : EncodeLegal.Statement .initSha3_256 := rfl
theorem EncodeLegal.initSha3_384 : EncodeLegal.Statement .initSha3_384 := rfl
theorem EncodeLegal.initSha3_512 : EncodeLegal.Statement .initSha3_512 := rfl
theorem EncodeLegal.initKeccak224 : EncodeLegal.Statement .initKeccak224 := rfl
theorem EncodeLegal.initKeccak256 : EncodeLegal.Statement .initKeccak256 := rfl
theorem EncodeLegal.initKeccak384 : EncodeLegal.Statement .initKeccak384 := rfl
theorem EncodeLegal.initKeccak512 : EncodeLegal.Statement .initKeccak512 := rfl
theorem EncodeLegal.compressMd5Blk : EncodeLegal.Statement .compressMd5Blk := rfl
theorem EncodeLegal.compressSha1Blk : EncodeLegal.Statement .compressSha1Blk := rfl
theorem EncodeLegal.compressSha224Blk : EncodeLegal.Statement .compressSha224Blk := rfl
theorem EncodeLegal.compressSha256Blk : EncodeLegal.Statement .compressSha256Blk := rfl
theorem EncodeLegal.compressSha384Blk : EncodeLegal.Statement .compressSha384Blk := rfl
theorem EncodeLegal.compressSha512Blk : EncodeLegal.Statement .compressSha512Blk := rfl
theorem EncodeLegal.compressMd5Msg : EncodeLegal.Statement .compressMd5Msg := rfl
theorem EncodeLegal.compressSha1Msg : EncodeLegal.Statement .compressSha1Msg := rfl
theorem EncodeLegal.compressSha224Msg : EncodeLegal.Statement .compressSha224Msg := rfl
theorem EncodeLegal.compressSha256Msg : EncodeLegal.Statement .compressSha256Msg := rfl
theorem EncodeLegal.compressSha384Msg : EncodeLegal.Statement .compressSha384Msg := rfl
theorem EncodeLegal.compressSha512Msg : EncodeLegal.Statement .compressSha512Msg := rfl
theorem EncodeLegal.compressMd5Fb0 : EncodeLegal.Statement .compressMd5Fb0 := rfl
theorem EncodeLegal.compressSha1Fb0 : EncodeLegal.Statement .compressSha1Fb0 := rfl
theorem EncodeLegal.compressSha224Fb0 : EncodeLegal.Statement .compressSha224Fb0 := rfl
theorem EncodeLegal.compressSha256Fb0 : EncodeLegal.Statement .compressSha256Fb0 := rfl
theorem EncodeLegal.compressSha384Fb0 : EncodeLegal.Statement .compressSha384Fb0 := rfl
theorem EncodeLegal.compressSha512Fb0 : EncodeLegal.Statement .compressSha512Fb0 := rfl
theorem EncodeLegal.compressMd5Fb1 : EncodeLegal.Statement .compressMd5Fb1 := rfl
theorem EncodeLegal.compressSha1Fb1 : EncodeLegal.Statement .compressSha1Fb1 := rfl
theorem EncodeLegal.compressSha224Fb1 : EncodeLegal.Statement .compressSha224Fb1 := rfl
theorem EncodeLegal.compressSha256Fb1 : EncodeLegal.Statement .compressSha256Fb1 := rfl
theorem EncodeLegal.compressSha384Fb1 : EncodeLegal.Statement .compressSha384Fb1 := rfl
theorem EncodeLegal.compressSha512Fb1 : EncodeLegal.Statement .compressSha512Fb1 := rfl
theorem EncodeLegal.padMd5 : EncodeLegal.Statement .padMd5 := rfl
theorem EncodeLegal.padSha1 : EncodeLegal.Statement .padSha1 := rfl
theorem EncodeLegal.padSha224 : EncodeLegal.Statement .padSha224 := rfl
theorem EncodeLegal.padSha256 : EncodeLegal.Statement .padSha256 := rfl
theorem EncodeLegal.padSha384 : EncodeLegal.Statement .padSha384 := rfl
theorem EncodeLegal.padSha512 : EncodeLegal.Statement .padSha512 := rfl
theorem EncodeLegal.serializeMd5 : EncodeLegal.Statement .serializeMd5 := rfl
theorem EncodeLegal.serializeSha1 : EncodeLegal.Statement .serializeSha1 := rfl
theorem EncodeLegal.serializeSha224 : EncodeLegal.Statement .serializeSha224 := rfl
theorem EncodeLegal.serializeSha256 : EncodeLegal.Statement .serializeSha256 := rfl
theorem EncodeLegal.serializeSha384 : EncodeLegal.Statement .serializeSha384 := rfl
theorem EncodeLegal.serializeSha512 : EncodeLegal.Statement .serializeSha512 := rfl
theorem EncodeLegal.permute : EncodeLegal.Statement .permute := rfl
theorem EncodeLegal.absorbSha3_224Blk : EncodeLegal.Statement .absorbSha3_224Blk := rfl
theorem EncodeLegal.absorbSha3_256Blk : EncodeLegal.Statement .absorbSha3_256Blk := rfl
theorem EncodeLegal.absorbSha3_384Blk : EncodeLegal.Statement .absorbSha3_384Blk := rfl
theorem EncodeLegal.absorbSha3_512Blk : EncodeLegal.Statement .absorbSha3_512Blk := rfl
theorem EncodeLegal.absorbKeccak224Blk : EncodeLegal.Statement .absorbKeccak224Blk := rfl
theorem EncodeLegal.absorbKeccak256Blk : EncodeLegal.Statement .absorbKeccak256Blk := rfl
theorem EncodeLegal.absorbKeccak384Blk : EncodeLegal.Statement .absorbKeccak384Blk := rfl
theorem EncodeLegal.absorbKeccak512Blk : EncodeLegal.Statement .absorbKeccak512Blk := rfl
theorem EncodeLegal.absorbSha3_224Msg : EncodeLegal.Statement .absorbSha3_224Msg := rfl
theorem EncodeLegal.absorbSha3_256Msg : EncodeLegal.Statement .absorbSha3_256Msg := rfl
theorem EncodeLegal.absorbSha3_384Msg : EncodeLegal.Statement .absorbSha3_384Msg := rfl
theorem EncodeLegal.absorbSha3_512Msg : EncodeLegal.Statement .absorbSha3_512Msg := rfl
theorem EncodeLegal.absorbKeccak224Msg : EncodeLegal.Statement .absorbKeccak224Msg := rfl
theorem EncodeLegal.absorbKeccak256Msg : EncodeLegal.Statement .absorbKeccak256Msg := rfl
theorem EncodeLegal.absorbKeccak384Msg : EncodeLegal.Statement .absorbKeccak384Msg := rfl
theorem EncodeLegal.absorbKeccak512Msg : EncodeLegal.Statement .absorbKeccak512Msg := rfl
theorem EncodeLegal.absorbSha3_224Fb0 : EncodeLegal.Statement .absorbSha3_224Fb0 := rfl
theorem EncodeLegal.absorbSha3_256Fb0 : EncodeLegal.Statement .absorbSha3_256Fb0 := rfl
theorem EncodeLegal.absorbSha3_384Fb0 : EncodeLegal.Statement .absorbSha3_384Fb0 := rfl
theorem EncodeLegal.absorbSha3_512Fb0 : EncodeLegal.Statement .absorbSha3_512Fb0 := rfl
theorem EncodeLegal.absorbKeccak224Fb0 : EncodeLegal.Statement .absorbKeccak224Fb0 := rfl
theorem EncodeLegal.absorbKeccak256Fb0 : EncodeLegal.Statement .absorbKeccak256Fb0 := rfl
theorem EncodeLegal.absorbKeccak384Fb0 : EncodeLegal.Statement .absorbKeccak384Fb0 := rfl
theorem EncodeLegal.absorbKeccak512Fb0 : EncodeLegal.Statement .absorbKeccak512Fb0 := rfl
theorem EncodeLegal.sppadSha3_224 : EncodeLegal.Statement .sppadSha3_224 := rfl
theorem EncodeLegal.sppadSha3_256 : EncodeLegal.Statement .sppadSha3_256 := rfl
theorem EncodeLegal.sppadSha3_384 : EncodeLegal.Statement .sppadSha3_384 := rfl
theorem EncodeLegal.sppadSha3_512 : EncodeLegal.Statement .sppadSha3_512 := rfl
theorem EncodeLegal.sppadKeccak224 : EncodeLegal.Statement .sppadKeccak224 := rfl
theorem EncodeLegal.sppadKeccak256 : EncodeLegal.Statement .sppadKeccak256 := rfl
theorem EncodeLegal.sppadKeccak384 : EncodeLegal.Statement .sppadKeccak384 := rfl
theorem EncodeLegal.sppadKeccak512 : EncodeLegal.Statement .sppadKeccak512 := rfl
theorem EncodeLegal.squeezeSha3_224 : EncodeLegal.Statement .squeezeSha3_224 := rfl
theorem EncodeLegal.squeezeSha3_256 : EncodeLegal.Statement .squeezeSha3_256 := rfl
theorem EncodeLegal.squeezeSha3_384 : EncodeLegal.Statement .squeezeSha3_384 := rfl
theorem EncodeLegal.squeezeSha3_512 : EncodeLegal.Statement .squeezeSha3_512 := rfl
theorem EncodeLegal.squeezeKeccak224 : EncodeLegal.Statement .squeezeKeccak224 := rfl
theorem EncodeLegal.squeezeKeccak256 : EncodeLegal.Statement .squeezeKeccak256 := rfl
theorem EncodeLegal.squeezeKeccak384 : EncodeLegal.Statement .squeezeKeccak384 := rfl
theorem EncodeLegal.squeezeKeccak512 : EncodeLegal.Statement .squeezeKeccak512 := rfl
theorem EncodeLegal.clear : EncodeLegal.Statement .clear := rfl

end Sys2Proof.Laws
end

