-- ==== Sys2Proof/Tests/Slice0.lean ====
section
/-! SUPPORT. The model's own tests: the decoder on words written out from R49 to R53, a word for each check of
R54 that the check refuses, one step of each family on a small state with a result taken from spec/, and for
every statement with hypotheses a witness that meets them. -/

namespace Sys2Proof.Tests
open Sys2Proof Sys2Proof.Machine

-- One theorem at a time: kernel evaluation in many threads at once exceeds the memory limit of a check.
set_option Elab.async false

/-! ## WellFormed: one ill-formed word for each check of R54 -/

/-- 0x00000411, bit 10 set (R185). -/
theorem test_refuse_zero : (Fields.ofWord 0x00000411).zeroOk = false ∧ decode 0x00000411 = .error .errIllegal := by
  decide +kernel

/-- `OPC` B, reserved. -/
theorem test_refuse_opc : (Fields.ofWord 0x0000001B).opcOk = false ∧ decode 0x0000001B = .error .errIllegal := by
  decide +kernel

/-- 0x00000031, DIGEST with `ALG` 3 (R185). -/
theorem test_refuse_alg : (Fields.ofWord 0x00000031).algOk = false ∧ decode 0x00000031 = .error .errIllegal := by
  decide +kernel

/-- 0x00000083, COMPRESS with a sponge `ALG` (R185). -/
theorem test_refuse_md : (Fields.ofWord 0x00000083).mdOk = false ∧ decode 0x00000083 = .error .errIllegal := by
  decide +kernel

/-- 0x00000017, ABSORB with a Merkle–Damgård `ALG` (R185). -/
theorem test_refuse_sponge : (Fields.ofWord 0x00000017).spongeOk = false ∧ decode 0x00000017 = .error .errIllegal := by
  decide +kernel

/-- 0x0000001A, CLEAR with `ALG` ≠ 0 (R181). -/
theorem test_refuse_noalg : (Fields.ofWord 0x0000001A).noAlgOk = false ∧ decode 0x0000001A = .error .errIllegal := by
  decide +kernel

/-- 0x00000111, DIGEST with `BSEL` ≠ 0 (R185). -/
theorem test_refuse_bsel : (Fields.ofWord 0x00000111).bselOk = false ∧ decode 0x00000111 = .error .errIllegal := by
  decide +kernel

/-- 0x00000387, ABSORB from FB1 (R185). -/
theorem test_refuse_absorb_fb1 :
    (Fields.ofWord 0x00000387).absorbSrcOk = false ∧ decode 0x00000387 = .error .errIllegal := by
  decide +kernel

/-- R119: a rate off the lane width, no rate, no capacity, an output beyond one permutation; the eight rows
pass. -/
theorem test_refuse_cfg : cfgOk 100 32 = false ∧ cfgOk 0 32 = false ∧ cfgOk 200 32 = false ∧ cfgOk 136 201 = false ∧
    (∀ a ∈ [SpongeAlg.sha3_224, .sha3_256, .sha3_384, .sha3_512, .keccak224, .keccak256, .keccak384, .keccak512],
      cfgOk (rate a) (spongeOutLen a) = true) := by decide +kernel

/-! ## Decode: every command's word, bit by bit `OPC` 3:0, `ALG` 7:4, `BSEL` 9:8, zero above -/

/-- Every DIGEST word: `OPC` 1 (R50, R52, R53). -/
theorem test_decode_digest :
    decode 0x00000011 = .ok .digestMd5 ∧
    decode 0x00000021 = .ok .digestSha1 ∧
    decode 0x00000041 = .ok .digestSha224 ∧
    decode 0x00000051 = .ok .digestSha256 ∧
    decode 0x00000061 = .ok .digestSha384 ∧
    decode 0x00000071 = .ok .digestSha512 ∧
    decode 0x00000081 = .ok .digestSha3_224 ∧
    decode 0x00000091 = .ok .digestSha3_256 ∧
    decode 0x000000A1 = .ok .digestSha3_384 ∧
    decode 0x000000B1 = .ok .digestSha3_512 ∧
    decode 0x000000C1 = .ok .digestKeccak224 ∧
    decode 0x000000D1 = .ok .digestKeccak256 ∧
    decode 0x000000E1 = .ok .digestKeccak384 ∧
    decode 0x000000F1 = .ok .digestKeccak512 := by
  decide +kernel

/-- Every INIT word: `OPC` 2 (R50, R52, R53). -/
theorem test_decode_init :
    decode 0x00000012 = .ok .initMd5 ∧
    decode 0x00000022 = .ok .initSha1 ∧
    decode 0x00000042 = .ok .initSha224 ∧
    decode 0x00000052 = .ok .initSha256 ∧
    decode 0x00000062 = .ok .initSha384 ∧
    decode 0x00000072 = .ok .initSha512 ∧
    decode 0x00000082 = .ok .initSha3_224 ∧
    decode 0x00000092 = .ok .initSha3_256 ∧
    decode 0x000000A2 = .ok .initSha3_384 ∧
    decode 0x000000B2 = .ok .initSha3_512 ∧
    decode 0x000000C2 = .ok .initKeccak224 ∧
    decode 0x000000D2 = .ok .initKeccak256 ∧
    decode 0x000000E2 = .ok .initKeccak384 ∧
    decode 0x000000F2 = .ok .initKeccak512 := by
  decide +kernel

/-- Every COMPRESS word: `OPC` 3, `BSEL` 0 to 3 (R50, R52, R53). -/
theorem test_decode_compress :
    decode 0x00000013 = .ok .compressMd5Blk ∧
    decode 0x00000113 = .ok .compressMd5Msg ∧
    decode 0x00000213 = .ok .compressMd5Fb0 ∧
    decode 0x00000313 = .ok .compressMd5Fb1 ∧
    decode 0x00000023 = .ok .compressSha1Blk ∧
    decode 0x00000123 = .ok .compressSha1Msg ∧
    decode 0x00000223 = .ok .compressSha1Fb0 ∧
    decode 0x00000323 = .ok .compressSha1Fb1 ∧
    decode 0x00000043 = .ok .compressSha224Blk ∧
    decode 0x00000143 = .ok .compressSha224Msg ∧
    decode 0x00000243 = .ok .compressSha224Fb0 ∧
    decode 0x00000343 = .ok .compressSha224Fb1 ∧
    decode 0x00000053 = .ok .compressSha256Blk ∧
    decode 0x00000153 = .ok .compressSha256Msg ∧
    decode 0x00000253 = .ok .compressSha256Fb0 ∧
    decode 0x00000353 = .ok .compressSha256Fb1 ∧
    decode 0x00000063 = .ok .compressSha384Blk ∧
    decode 0x00000163 = .ok .compressSha384Msg ∧
    decode 0x00000263 = .ok .compressSha384Fb0 ∧
    decode 0x00000363 = .ok .compressSha384Fb1 ∧
    decode 0x00000073 = .ok .compressSha512Blk ∧
    decode 0x00000173 = .ok .compressSha512Msg ∧
    decode 0x00000273 = .ok .compressSha512Fb0 ∧
    decode 0x00000373 = .ok .compressSha512Fb1 := by
  decide +kernel

/-- Every PAD word: `OPC` 4 (R50, R52, R53). -/
theorem test_decode_pad :
    decode 0x00000014 = .ok .padMd5 ∧
    decode 0x00000024 = .ok .padSha1 ∧
    decode 0x00000044 = .ok .padSha224 ∧
    decode 0x00000054 = .ok .padSha256 ∧
    decode 0x00000064 = .ok .padSha384 ∧
    decode 0x00000074 = .ok .padSha512 := by
  decide +kernel

/-- Every SERIALIZE word: `OPC` 5 (R50, R52, R53). -/
theorem test_decode_serialize :
    decode 0x00000015 = .ok .serializeMd5 ∧
    decode 0x00000025 = .ok .serializeSha1 ∧
    decode 0x00000045 = .ok .serializeSha224 ∧
    decode 0x00000055 = .ok .serializeSha256 ∧
    decode 0x00000065 = .ok .serializeSha384 ∧
    decode 0x00000075 = .ok .serializeSha512 := by
  decide +kernel

/-- PERMUTE and CLEAR: `OPC` 6 and A, no `ALG` (R50, R52, R53). -/
theorem test_decode_permute_clear :
    decode 0x00000006 = .ok .permute ∧
    decode 0x0000000A = .ok .clear := by
  decide +kernel

/-- Every ABSORB word: `OPC` 7, `BSEL` 0 to 2 (R50, R52, R53). -/
theorem test_decode_absorb :
    decode 0x00000087 = .ok .absorbSha3_224Blk ∧
    decode 0x00000187 = .ok .absorbSha3_224Msg ∧
    decode 0x00000287 = .ok .absorbSha3_224Fb0 ∧
    decode 0x00000097 = .ok .absorbSha3_256Blk ∧
    decode 0x00000197 = .ok .absorbSha3_256Msg ∧
    decode 0x00000297 = .ok .absorbSha3_256Fb0 ∧
    decode 0x000000A7 = .ok .absorbSha3_384Blk ∧
    decode 0x000001A7 = .ok .absorbSha3_384Msg ∧
    decode 0x000002A7 = .ok .absorbSha3_384Fb0 ∧
    decode 0x000000B7 = .ok .absorbSha3_512Blk ∧
    decode 0x000001B7 = .ok .absorbSha3_512Msg ∧
    decode 0x000002B7 = .ok .absorbSha3_512Fb0 ∧
    decode 0x000000C7 = .ok .absorbKeccak224Blk ∧
    decode 0x000001C7 = .ok .absorbKeccak224Msg ∧
    decode 0x000002C7 = .ok .absorbKeccak224Fb0 ∧
    decode 0x000000D7 = .ok .absorbKeccak256Blk ∧
    decode 0x000001D7 = .ok .absorbKeccak256Msg ∧
    decode 0x000002D7 = .ok .absorbKeccak256Fb0 ∧
    decode 0x000000E7 = .ok .absorbKeccak384Blk ∧
    decode 0x000001E7 = .ok .absorbKeccak384Msg ∧
    decode 0x000002E7 = .ok .absorbKeccak384Fb0 ∧
    decode 0x000000F7 = .ok .absorbKeccak512Blk ∧
    decode 0x000001F7 = .ok .absorbKeccak512Msg ∧
    decode 0x000002F7 = .ok .absorbKeccak512Fb0 := by
  decide +kernel

/-- Every SPPAD word: `OPC` 8 (R50, R52, R53). -/
theorem test_decode_sppad :
    decode 0x00000088 = .ok .sppadSha3_224 ∧
    decode 0x00000098 = .ok .sppadSha3_256 ∧
    decode 0x000000A8 = .ok .sppadSha3_384 ∧
    decode 0x000000B8 = .ok .sppadSha3_512 ∧
    decode 0x000000C8 = .ok .sppadKeccak224 ∧
    decode 0x000000D8 = .ok .sppadKeccak256 ∧
    decode 0x000000E8 = .ok .sppadKeccak384 ∧
    decode 0x000000F8 = .ok .sppadKeccak512 := by
  decide +kernel

/-- Every SQUEEZE word: `OPC` 9 (R50, R52, R53). -/
theorem test_decode_squeeze :
    decode 0x00000089 = .ok .squeezeSha3_224 ∧
    decode 0x00000099 = .ok .squeezeSha3_256 ∧
    decode 0x000000A9 = .ok .squeezeSha3_384 ∧
    decode 0x000000B9 = .ok .squeezeSha3_512 ∧
    decode 0x000000C9 = .ok .squeezeKeccak224 ∧
    decode 0x000000D9 = .ok .squeezeKeccak256 ∧
    decode 0x000000E9 = .ok .squeezeKeccak384 ∧
    decode 0x000000F9 = .ok .squeezeKeccak512 := by
  decide +kernel

/-- Every command belongs to a family: a statement over the families covers the 106 commands. -/
theorem test_families_cover (i : Instr) :
    (∃ a, i = .digestMd a) ∨ (∃ a, i = .digestSponge a) ∨ (∃ a, i = .initMd a) ∨ (∃ a, i = .initSponge a) ∨
    (∃ a src, i = .compress a src) ∨ (∃ a, i = .pad a) ∨ (∃ a, i = .serialize a) ∨ i = .permute ∨
    (∃ a src, i = .absorb a src) ∨ (∃ a, i = .sppad a) ∨ (∃ a, i = .squeeze a) ∨ i = .clear := by
  induction i using Instr.familyCases <;> simp

/-! ## Helpers -/

/-- Reset, with a message in MSG, its length, and `BLKIDX`. -/
def withMsg (bs : List Byte) (blkidx : Word64) : State :=
  { State.reset with msg := bs.zipIdx.map fun p => (p.2, p.1), len := BitVec.ofNat 64 bs.length, blkidx := blkidx }

/-- Reset, with a length and `BLKIDX` and no message byte written. -/
def withLen (len blkidx : Word64) : State := { State.reset with len := len, blkidx := blkidx }

/-- A value read off the next state. -/
def after {α : Type} (i : Instr) (s : State) (f : State → α) (d : α) : α :=
  match exec i s with
  | .next t => f t
  | _ => d

/-- The first `n` bytes of DOUT after a command on a message, as one number, the first byte at the top. -/
def digestNat (i : Instr) (bs : List Byte) (n : Nat) : Nat := after i (withMsg bs 0) (fun t => beNat (spaceBytes t .dout n)) 0

/-! ## One step of each family, expected results from spec/ -/

/-- "abc", section 2.2 of spec/95_test_vectors.md. -/
theorem test_digest_md5 : digestNat (.digestMd .md5) [0x61, 0x62, 0x63] 16 =
    0x900150983cd24fb0d6963f7d28e17f72 := by
  decide +kernel

/-- "abc", section 2.2 of spec/95_test_vectors.md. -/
theorem test_digest_sha1 : digestNat (.digestMd .sha1) [0x61, 0x62, 0x63] 20 =
    0xa9993e364706816aba3e25717850c26c9cd0d89d := by
  decide +kernel

/-- "abc", section 2.2 of spec/95_test_vectors.md. -/
theorem test_digest_sha224 : digestNat (.digestMd .sha224) [0x61, 0x62, 0x63] 28 =
    0x23097d223405d8228642a477bda255b32aadbce4bda0b3f7e36c9da7 := by
  decide +kernel

/-- "abc", section 2.2 of spec/95_test_vectors.md. -/
theorem test_digest_sha256 : digestNat (.digestMd .sha256) [0x61, 0x62, 0x63] 32 =
    0xba7816bf8f01cfea414140de5dae2223b00361a396177a9cb410ff61f20015ad := by
  decide +kernel

/-- "abc", section 2.2 of spec/95_test_vectors.md. -/
theorem test_digest_sha384 : digestNat (.digestMd .sha384) [0x61, 0x62, 0x63] 48 =
    0xcb00753f45a35e8bb5a03d699ac65007272c32ab0eded1631a8b605a43ff5bed8086072ba1e7cc2358baeca134c825a7 := by
  decide +kernel

/-- "abc", section 2.2 of spec/95_test_vectors.md. -/
theorem test_digest_sha512 : digestNat (.digestMd .sha512) [0x61, 0x62, 0x63] 64 =
    0xddaf35a193617abacc417349ae20413112e6fa4e89a97ea20a9eeee64b55d39a2192992a274fc1a836ba3c23a3feebbd454d4423643ce80e2a9ac94fa54ca49f := by
  decide +kernel

/-- The empty message, section 2.1 of spec/95_test_vectors.md. -/
theorem test_digest_sha3_256 : digestNat (.digestSponge .sha3_256) [] 32 =
    0xa7ffc6f8bf1ed76651c14756a061d662f580ff4de43b49fa82d80a4b80f8434a := by
  decide +kernel

/-- The empty message, section 2.1 of spec/95_test_vectors.md. -/
theorem test_digest_keccak512 : digestNat (.digestSponge .keccak512) [] 64 =
    0x0eab42de4c3ceb9235fc91acffe746b29c29a8c366b7c60e4e67c466f36a4304c00fa9caf9d87976ba469bcbe06713b435f091ef2769fb160cdab33d3670680e := by
  decide +kernel

/-- R75: after INIT.MD5, `RD MD5.H[1]` gives 0xefcdab89. -/
theorem test_init_md5 : after .initMd5 State.reset (fun t => readNumber t 0x11) 0 = 0xefcdab89 := by decide +kernel

/-- INIT.SHA3_256 on a non-zero state: every lane 0 (R127). -/
theorem test_init_sponge : after .initSha3_256 { State.reset with kec := Vector.replicate 25 7 } (fun t => readNumber t 0x58) 1 = 0 := by
  decide +kernel

/-- Section 4.2 of spec/95_test_vectors.md: COMPRESS.MD5 BLK on a zero state and a zero block. -/
theorem test_compress_md5 : after .compressMd5Blk State.reset (fun t => t.md5) (Vector.replicate 4 0) =
    #v[0xf7cd1c97, 0xa5483681, 0x2b68d832, 0xf90ca639] := by decide +kernel

/-- Section 4.2: COMPRESS.SHA1 BLK, likewise. -/
theorem test_compress_sha1 : after .compressSha1Blk State.reset (fun t => t.sha1) (Vector.replicate 5 0) =
    #v[0x9e1547ed, 0x57ec91c2, 0x30fa8bc8, 0xc7785a54, 0xa7efa5e3] := by decide +kernel

/-- Section 4.2: COMPRESS.SHA256 BLK, likewise. -/
theorem test_compress_sha256 : after .compressSha256Blk State.reset (fun t => t.s32) (Vector.replicate 8 0) =
    #v[0x7ca51614, 0x425c3ba8, 0xce54dd2f, 0xc2020ae7, 0xb6e574d1, 0x98136d0f, 0xae7e26cc, 0xbf0be7a6] := by
  decide +kernel

/-- Section 4.2: the first word after COMPRESS.SHA512 BLK, likewise. -/
theorem test_compress_sha512 : after .compressSha512Blk State.reset (fun t => t.s64[0]) 0 = 0xad3a5da838ebf830 := by
  decide +kernel

/-- R187: with `LEN` = 130, COMPRESS.MD5 MSG is accepted for `BLKIDX` = 1 and rejected for 2 and for 2^64 − 1. -/
theorem test_compress_range :
    after .compressMd5Msg (withLen 130 1) State.err true = false ∧
    after .compressMd5Msg (withLen 130 2) (fun t => t.rejected) none = some .range ∧
    after .compressMd5Msg (withLen 130 0xFFFFFFFFFFFFFFFF) (fun t => t.rejected) none = some .range := by decide +kernel

/-- Section 4.1: PAD.MD5 at `LEN` = 55 and 56: `PADST`, the byte of the delimiter, the suffix. -/
theorem test_pad_md5 :
    after .padMd5 (withLen 55 0) (fun t => (padstWord t, byteAt t .fb0 55, byteAt t .fb0 56, byteAt t .fb0 57)) (0, 0, 0, 0) =
      (0x037, 0x80, 0xb8, 0x01) ∧
    after .padMd5 (withLen 56 0) (fun t => (padstWord t, byteAt t .fb0 56, byteAt t .fb1 56, byteAt t .fb1 57)) (0, 0, 0, 0) =
      (0x138, 0x80, 0xc0, 0x01) := by decide +kernel

/-- Section 4.1: PAD.SHA384 at `LEN` = 111 and 112. -/
theorem test_pad_sha384 :
    after .padSha384 (withLen 111 0) (fun t => (padstWord t, byteAt t .fb0 111, byteAt t .fb0 126, byteAt t .fb0 127)) (0, 0, 0, 0) =
      (0x06f, 0x80, 0x03, 0x78) ∧
    after .padSha384 (withLen 112 0) (fun t => (padstWord t, byteAt t .fb0 112, byteAt t .fb1 126, byteAt t .fb1 127)) (0, 0, 0, 0) =
      (0x170, 0x80, 0x03, 0x80) := by decide +kernel

/-- R77: the bytes of SERIALIZE.MD5. -/
theorem test_serialize_md5 :
    after .serializeMd5 { State.reset with md5 := #v[0xd98c1dd4, 0x04b2008f, 0x980980e9, 0x7e42f8ec] }
      (fun t => (beNat (spaceBytes t .dout 16), readNumber t 0x06)) (0, 0) =
    (0xd41d8cd98f00b204e9800998ecf8427e, 16) := by decide +kernel

/-- R97: SERIALIZE.SHA224 drops the eighth word. -/
theorem test_serialize_sha224 :
    after .serializeSha224 { State.reset with s32 := #v[0xd14a028c, 0x2a3a2bc9, 0x476102bb, 0x288234c4, 0x15a2b01f,
      0x828ea62a, 0xc5b3e42f, 0xbdd387cb] } (fun t => (beNat (spaceBytes t .dout 32), readNumber t 0x06)) (0, 0) =
    (0xd14a028c2a3a2bc9476102bb288234c415a2b01f828ea62ac5b3e42f00000000, 28) := by decide +kernel

/-- R117, R118: PERMUTE of the zero state, lanes 0 and 24. -/
theorem test_permute : after .permute State.reset (fun t => (readNumber t 0x40, readNumber t 0x58)) (0, 0) =
    (0xf1258f7940e1dde7, 0xeaf1ff7b5ceca249) := by decide +kernel

/-- R117, R121: absorbing a zero block into the zero state is PERMUTE of the zero state. -/
theorem test_absorb : after .absorbSha3_512Blk State.reset (fun t => readNumber t 0x41) 0 = 0x84d5ccf933c0478a := by
  decide +kernel

/-- R123, section 3.2: SPPAD at `LEN` = `RATE` − 1 and `RATE` − 2. -/
theorem test_sppad :
    after .sppadSha3_512 (withLen 71 0) (fun t => (padstWord t, byteAt t .fb0 71)) (0, 0) = (0x047, 0x86) ∧
    after .sppadKeccak512 (withLen 71 0) (fun t => (padstWord t, byteAt t .fb0 71)) (0, 0) = (0x047, 0x81) ∧
    after .sppadKeccak512 (withLen 70 0) (fun t => (byteAt t .fb0 70, byteAt t .fb0 71)) (0, 0) = (0x01, 0x80) := by
  decide +kernel

/-- R125: SQUEEZE.SHA3_224 reads lane 3's low four bytes only, little-endian. -/
theorem test_squeeze :
    after .squeezeSha3_224 { State.reset with kec := Vector.ofFn fun i => 0x0706050403020100 + BitVec.ofNat 64 (16 * i.val) }
      (fun t => (byteAt t .dout 0, byteAt t .dout 8, byteAt t .dout 27, byteAt t .dout 28, t.dlen)) (0, 0, 0, 0, 0) =
    (0x00, 0x10, 0x03, 0x00, 28) := by decide +kernel

/-- R181: CLEAR leaves the error state and zeroes `LEN`; MSG stays. -/
theorem test_clear :
    after .clear (reject .range (withMsg [0x61] 5)) (fun t => (statusWord t, t.len, t.blkidx, byteAt t .msg 0)) (0, 1, 1, 0) =
    (0x02, 0, 0, 0x61) := by decide +kernel

/-- R190: the lock: an accepted command's word is refused and the first cause stays. -/
theorem test_lock : after .permute (reject .len State.reset) statusWord 0 = 0x24 ∧
    after .permute (reject .len State.reset) (fun t => readNumber t 0x40) 1 = 0 := by decide +kernel

/-- R186: with `MSG_CAP` = 4096, `LEN` = 4097 is rejected with code 2, `LEN` = 4096 is not; R191: `ERR_LEN`
comes before `ERR_RANGE`. -/
theorem test_err_len : after .padMd5 (withLen 4097 0) statusWord 0 = 0x24 ∧ after .padMd5 (withLen 4096 0) statusWord 0 = 0x02 ∧
    after .compressMd5Msg (withLen 4097 0xFFFFFFFFFFFFFFFF) statusWord 0 = 0x24 := by decide +kernel

/-! ## The step and the host's accesses -/

/-- What a step gives, read off the next state. -/
def stepped {α : Type} (s : State) (f : State → α) (d : α) : α :=
  match step s with
  | .next t => f t
  | _ => d

/-- R22: `WR CMD` issues; R200: a command with a busy interval shows `STATUS` = 1 until it ends. -/
theorem test_step_issue :
    stepped { State.reset with host := [.wr 0x00 0x0000000A] } statusWord 0 = 0x02 ∧
    stepped { State.reset with host := [.issueLong 0x00000006] } statusWord 0 = 0x01 ∧
    stepped { beginCommand .permute State.reset with host := [] } (fun t => (statusWord t, readNumber t 0x40)) (0, 0) =
      (0x02, 0xf1258f7940e1dde7) := by decide +kernel

/-- R198: reset abandons a command in progress and zeroes the registers. -/
theorem test_step_reset :
    stepped { beginCommand .permute (withLen 3 4) with host := [.reset] } (fun t => (statusWord t, t.len, t.blkidx, t.msgEpoch))
      (1, 1, 1, 0) = (0, 0, 0, 1) := by decide +kernel

/-- R21, R28: writes of a read-only register, of an unassigned number and of FB0 are ignored. -/
theorem test_ignored :
    stepped { State.reset with host := [.wr 0x04 0xFFFFFFFFFFFFFFFF] } (fun t => t.nfull) 1 = 0 ∧
    stepped { State.reset with host := [.rd 0x03], blkidx := 7 } (fun t => t.readOut) .nothing = .reg 7 ∧
    stepped { State.reset with host := [.wr 0x59 5] } (fun t => readNumber t 0x59) 1 = 0 ∧
    stepped { State.reset with host := [.wrb .fb0 0 [1]] } (fun t => byteAt t .fb0 0) 1 = 0 := by decide +kernel

/-- The host's fixed names: `withFetchWord` runs the word in the very next step. -/
theorem test_with_fetch_word : decodeTableWord 32 0x00000012 = some .initMd5 ∧ decodeTableWord 32 0x00000031 = none ∧
    stepped (State.reset.withFetchWord 32 0x00000012) (fun t => readNumber t 0x10) 0 = 0x67452301 := by decide +kernel

/-! ## Witnesses: for every statement with hypotheses, a state and operands that meet them -/

/-- Ready, `LEN` = 0 fits. For every statement whose only hypotheses are `ready`, or `ready` and `lenOk`:
InitLoadsIv, InitSpongeZero, PadDelivers, PaddedMessage, SerializeDelivers, PermuteCompletes, SppadDelivers,
DigestMdCompletes, DigestSpongeCompletes, DigestEqualsUnits, SpongeDigestEqualsUnits, TruncationIsFirstBytes,
ErrRange, and the last two clauses of ErrLen. -/
theorem witness_ready : State.reset.ready ∧ State.reset.lenOk := by unfold State.ready State.lenOk; decide +kernel

/-- `LEN` at the two sides of the capacity: ErrLen, its first and its last clause. -/
theorem witness_ErrLen : (withLen 4097 0).ready ∧ (withLen 4097 0).msgCap.val < (withLen 4097 0).len.toNat ∧
    (withLen 4096 0).lenOk := by unfold State.ready State.lenOk; decide +kernel

/-- ErrRange at the boundary of both its cases: `LEN` = 130, `BLKIDX` = 1 and 2 (`test_compress_range` runs
them). -/
theorem witness_ErrRange : (withLen 130 1).ready ∧ (withLen 130 1).lenOk ∧ (withLen 130 2).ready ∧ (withLen 130 2).lenOk ∧
    (1 : Nat) < 130 / 64 ∧ ¬ (2 : Nat) < 130 / 64 := by unfold State.ready State.lenOk; decide +kernel

/-- IllegalWords, its second clause. -/
theorem witness_IllegalWords : decode 0x00000031 = .error .errIllegal ∧ State.reset.ready := by unfold State.ready; decide +kernel

/-- StepRunsCommand, clause by clause. -/
theorem witness_StepRunsCommand :
    (decode 0x00000006 = .ok .permute ∧ ({ State.reset with host := [.issue 0x00000006] } : State).host = .issue 0x00000006 :: []) ∧
    ((0x0000000A : Word64).toNat < 2 ^ 32 ∧ decode ((0x0000000A : Word64).setWidth 32) = .ok .clear ∧
      ({ State.reset with host := [.wr 0x00 0x0000000A] } : State).host = .wr 0x00 0x0000000A :: [] ∧
      ({ State.reset with host := [.wr 0x00 0x0000000A] } : State).busy = false) ∧
    decode (BitVec.ofNat 32 0x00000011) = .ok .digestMd5 ∧
    (decode 0xFFFFFFFF = .error .errIllegal ∧ ({ State.reset with host := [.issue 0xFFFFFFFF] } : State).ready) ∧
    (State.reset.host = [] ∧ State.reset.busy = false) := by unfold State.ready; decide +kernel

/-- BusyIntervalIsOneTransition: a command that completes and a word that does not. -/
theorem witness_BusyIntervalIsOneTransition : State.reset.busy = false ∧
    (∃ t, issue 0x0000000A State.reset = .next t ∧ t.done = true) ∧
    (∃ t, issue 0x00000000 State.reset = .next t ∧ t.done = false) := ⟨rfl, ⟨_, rfl, rfl⟩, ⟨_, rfl, rfl⟩⟩

/-- BusyRefusesAccess. -/
theorem witness_BusyRefusesAccess : (beginCommand .permute State.reset).busy = true ∧
    (beginCommand .permute State.reset).done = false ∧ (beginCommand .permute State.reset).err = false ∧
    regOfNumber 0x02 ≠ some .status ∧ regOfNumber 0x59 ≠ some .status := by decide +kernel

/-- ResetEvent, also while a command runs. -/
theorem witness_ResetEvent : ({ beginCommand .permute State.reset with host := [.reset] } : State).host = .reset :: [] := rfl

/-- The invariant after a command has completed or been rejected, the registers as after reset. -/
theorem inv_after_command (r : Option RejectCode) (ops : List HostOp) :
    ({ State.reset with done := !r.isSome, rejected := r, host := ops } : State).Inv where
  mem := Memory.reset_wf
  status := ⟨rfl, rfl, by cases r <;> rfl⟩
  dlen := List.mem_cons_self
  dout := fun _ _ => getD_zero_space 64 _
  nfull := Nat.zero_le _
  rem := Nat.zero_le _
  need2 := fun h => nomatch h
  fb1 := fun _ _ => getD_zero_space 128 _
  running := fun _ h => nomatch h

/-- InvKept, on a step that runs a command. -/
theorem witness_InvKept : ({ State.reset with done := true, host := [.issue 0x0000000A] } : State).Inv ∧
    ∃ t, step { State.reset with done := true, host := [.issue 0x0000000A] } = .next t :=
  ⟨inv_after_command none _, _, rfl⟩

/-- StatusCombinations: the invariant holds with `DONE` = 1, and with each of the three codes. -/
theorem witness_StatusCombinations : ({ State.reset with done := true } : State).Inv ∧
    ∀ c, ({ State.reset with rejected := some c } : State).Inv :=
  ⟨inv_after_command none [], fun c => inv_after_command (some c) []⟩

/-- EveryCommandAnswers and ClearCompletes, with `ERR` = 0 and with `ERR` = 1. -/
theorem witness_EveryCommandAnswers : State.reset.busy = false ∧ (reject .len State.reset).busy = false := by decide +kernel

/-- AcceptCheckOrder: each verdict occurs, in the order of R188: CLEAR under the lock, the lock before an
illegal word, then the three causes. -/
theorem witness_AcceptCheckOrder : State.reset.busy = false ∧ (reject .len State.reset).busy = false ∧
    verdict 0x0000000A (reject .len State.reset) = .accept ∧ verdict 0x00000000 (reject .len State.reset) = .locked ∧
    verdict 0x00000000 State.reset = .reject .illegal ∧ verdict 0x00000113 (withLen 4097 0xFFFFFFFFFFFFFFFF) = .reject .len ∧
    verdict 0x00000113 (withLen 130 2) = .reject .range ∧ verdict 0x00000113 (withLen 130 1) = .accept ∧
    verdict 0x00000006 (withLen 4097 0) = .accept := by decide +kernel

/-- RejectionIsPrecise: a rejection and the lock. -/
theorem witness_RejectionIsPrecise : (∃ t, exec .padMd5 (withLen 4097 0) = .next t ∧ t.done = false) ∧
    (∃ t, exec .permute (reject .len State.reset) = .next t ∧ t.done = false) := ⟨⟨_, rfl, rfl⟩, ⟨_, rfl, rfl⟩⟩

/-- ErrorLock: a legal and an illegal word under the lock; each of the four host accesses completes. -/
theorem witness_ErrorLock : (reject .len State.reset).busy = false ∧ (reject .len State.reset).err = true ∧
    (0x00000006 : Word32) ≠ 0x0000000A ∧ (0x00000000 : Word32) ≠ 0x0000000A ∧
    (∃ t, hostWrite 0x02 5 State.reset = .next t) ∧ (∃ t, hostRead 0x02 State.reset = .next t) ∧
    regOfNumber 0x02 ≠ some .status ∧ (∃ t, hostWriteBytes .msg 4095 [1] State.reset = .next t) ∧
    (∃ t, hostReadBytes .dout 0 64 State.reset = .next t) :=
  ⟨by decide +kernel, by decide +kernel, by decide +kernel, by decide +kernel, ⟨_, rfl⟩, ⟨_, rfl⟩, by decide +kernel, ⟨_, rfl⟩, ⟨_, rfl⟩⟩

/-- CompressBuffer and AbsorbBuffer. -/
theorem witness_CompressBuffer :
    (Src.fb1, Space.fb1) ∈ [(Src.blk, Space.blk), (.fb0, .fb0), (.fb1, .fb1)] ∧
    (SpongeSrc.fb0, Space.fb0) ∈ [(SpongeSrc.blk, Space.blk), (.fb0, .fb0)] ∧ State.reset.ready ∧
    MdAlg.sha224 ∈ [MdAlg.sha224, .sha256] ∧ MdAlg.sha512 ∈ [MdAlg.sha384, .sha512] := by unfold State.ready; decide +kernel

/-- CompressMsg, both clauses, the last full block addressed. -/
theorem witness_CompressMsg : (withLen 128 1).ready ∧ (withLen 128 1).lenOk ∧
    ((withLen 128 1).blkidx.toNat + 1) * 64 ≤ (withLen 128 1).len.toNat ∧
    (withLen 128 0).ready ∧ (withLen 128 0).lenOk ∧
    ((withLen 128 0).blkidx.toNat + 1) * 128 ≤ (withLen 128 0).len.toNat := by unfold State.ready State.lenOk; decide +kernel

/-- The block lengths of Md5CompressSteps, Sha1CompressSteps, Sha2SmallCompressSteps and Sha2LargeCompressSteps,
and the first and last index of each of their clauses; the lane count of KeccakRoundSteps, and the
last round of KeccakFRounds. -/
theorem witness_CompressSteps : (zeros 64).length = 64 ∧ (zeros 128).length = 128 ∧ (63 : Nat) < 64 ∧ (15 : Nat) < 16 ∧
    (16 ≤ (16 : Nat) ∧ (79 : Nat) < 80) ∧ (List.replicate 25 (0 : Word64)).length = 25 ∧ (24 : Nat) < 25 ∧
    (4 : Nat) < 5 ∧ (23 : Nat) < 24 := by decide +kernel

/-- PadDelivers and PadThreshold at the remainders where their cases meet: 55, 56, 63 and 111, 112, 127
(`test_pad_md5` and `test_pad_sha384` run them). -/
theorem witness_PadThreshold :
    (∀ n ∈ [(55 : Word64), 56, 63, 111, 112, 127], (withLen n 0).ready ∧ (withLen n 0).lenOk) ∧
    (∀ n, ∃ t, exec (.pad .md5) (withLen n 0) = .next t) ∧ (∀ n, ∃ t, exec (.pad .sha512) (withLen n 0) = .next t) ∧
    MdAlg.md5 ∈ [MdAlg.md5, .sha1, .sha224, .sha256] ∧ MdAlg.sha512 ∈ [MdAlg.sha384, .sha512] := by
  have h : ∀ n a, ∃ t, exec (.pad a) (withLen n 0) = .next t := fun n a => by
    by_cases hl : (withLen n 0).lenOk
    · exact ⟨_, (exec_pad a _).trans (command_accept ⟨rfl, rfl⟩ (lenCheck_none hl))⟩
    · exact ⟨_, (exec_pad a _).trans (command_reject ⟨rfl, rfl⟩ (lenCheck_some (Nat.lt_of_not_le hl)))⟩
  exact ⟨by unfold State.ready State.lenOk; simp [withLen, State.busy, State.err, State.reset], fun n => h n _, fun n => h n _, by decide, by decide⟩

/-- SqueezeDelivers. -/
theorem witness_SqueezeDelivers : (SpongeAlg.sha3_512, 64) ∈ [(SpongeAlg.sha3_224, 28), (.sha3_256, 32), (.sha3_384, 48),
    (.sha3_512, 64), (.keccak224, 28), (.keccak256, 32), (.keccak384, 48), (.keccak512, 64)] ∧ State.reset.ready := by
  unfold State.ready
  decide +kernel

/-- AbsorbMsg, the one full block addressed. -/
theorem witness_AbsorbMsg : (withLen 72 0).ready ∧ (withLen 72 0).lenOk ∧
    ((withLen 72 0).blkidx.toNat + 1) * rate .sha3_512 ≤ (withLen 72 0).len.toNat := by unfold State.ready State.lenOk; decide +kernel

/-- SpongeCombinedByte, its two clauses where they meet: remainders `RATE` − 1 and `RATE` − 2. -/
theorem witness_SpongeCombinedByte :
    ((withLen 71 0).ready ∧ (withLen 71 0).lenOk ∧ (∃ t, exec (.sppad .sha3_512) (withLen 71 0) = .next t) ∧
      (withLen 71 0).len.toNat % rate .sha3_512 = rate .sha3_512 - 1) ∧
    ((withLen 70 0).ready ∧ (withLen 70 0).lenOk ∧ (∃ t, exec (.sppad .sha3_512) (withLen 70 0) = .next t) ∧
      (withLen 70 0).len.toNat % rate .sha3_512 ≤ rate .sha3_512 - 2) :=
  ⟨⟨⟨rfl, rfl⟩, by unfold State.lenOk; decide +kernel, ⟨_, rfl⟩, by decide +kernel⟩,
    ⟨⟨rfl, rfl⟩, by unfold State.lenOk; decide +kernel, ⟨_, rfl⟩, by decide +kernel⟩⟩

/-- DigestDependsOnMessageOnly: two states that differ in `BLKIDX`, in an engine file and in a byte beyond
`LEN`. -/
theorem witness_DigestDependsOnMessageOnly :
    let s := withMsg [0x61] 0
    let s' := { withMsg [0x61] 5 with msg := [(0, 0x61), (1, 0x62)], md5 := Vector.replicate 4 9 }
    s.ready ∧ s'.ready ∧ s.lenOk ∧ s'.lenOk ∧ s'.len = s.len ∧ s ≠ s' ∧ ∀ k < s.len.toNat, byteAt s' .msg k = byteAt s .msg k := by
  refine ⟨⟨rfl, rfl⟩, ⟨rfl, rfl⟩, by unfold State.lenOk; decide +kernel, by unfold State.lenOk; decide +kernel, rfl, by decide +kernel, fun k hk => ?_⟩
  have : k = 0 := by
    have h1 : (withMsg [0x61] 0).len.toNat = 1 := rfl
    omega
  subst this
  rfl

/-- EngineCommandsFrame, PadderCommandsFrame, OutputCommandsFrame, DigestFrame, OperandsKeptByCommands: one
command of each named shape answers a next state. -/
theorem witness_Frames :
    (∃ t, exec (.initMd .md5) State.reset = .next t) ∧ (∃ t, exec (.initSponge .sha3_256) State.reset = .next t) ∧
    (∃ t, exec (.compress .sha1 .blk) State.reset = .next t) ∧ (∃ t, exec .permute State.reset = .next t) ∧
    (∃ t, exec (.absorb .keccak256 .fb0) State.reset = .next t) ∧ (∃ t, exec (.pad .sha384) State.reset = .next t) ∧
    (∃ t, exec (.sppad .sha3_224) State.reset = .next t) ∧ (∃ t, exec (.serialize .sha224) State.reset = .next t) ∧
    (∃ t, exec (.squeeze .keccak384) State.reset = .next t) ∧ (∃ t, exec (.digestMd .sha512) State.reset = .next t) ∧
    (∃ t, exec (.digestSponge .sha3_512) State.reset = .next t) ∧ Instr.permute ≠ .clear :=
  ⟨⟨_, rfl⟩, ⟨_, rfl⟩, ⟨_, rfl⟩, ⟨_, rfl⟩, ⟨_, rfl⟩, ⟨_, rfl⟩, ⟨_, rfl⟩, ⟨_, rfl⟩, ⟨_, rfl⟩, ⟨_, rfl⟩, ⟨_, rfl⟩, by decide +kernel⟩

/-- MsgWrittenByHostOnly: a command, a host write of bytes to MSG, reset. -/
theorem witness_MsgWrittenByHostOnly :
    (∃ t, step { State.reset with host := [.issue 0x00000006] } = .next t) ∧
    (∃ t, step { State.reset with host := [.wrb .msg 0 [1]] } = .next t) ∧
    (∃ t, step { State.reset with host := [.reset] } = .next t) := ⟨⟨_, rfl⟩, ⟨_, rfl⟩, ⟨_, rfl⟩⟩

/-- RegisterAccess: the widest value of a 32-bit and of a 64-bit register, the read-only registers, a register on
each side of the width boundary, and the first and last number of each unassigned range. -/
theorem witness_RegisterAccess : State.reset.busy = false ∧
    (regOfNumber 0x13 = some (.md5 3) ∧ (0xFFFFFFFF : Word64).toNat < 2 ^ regWidth (.md5 3) ∧
      RegName.md5 3 ∉ [RegName.cmd, .status, .nfull, .padst, .dlen]) ∧
    (regOfNumber 0x58 = some (.kec 24) ∧ (0xFFFFFFFFFFFFFFFF : Word64).toNat < 2 ^ regWidth (.kec 24) ∧
      RegName.kec 24 ∉ [RegName.cmd, .status, .nfull, .padst, .dlen]) ∧
    (0x01 ∈ [0x01, 0x05, 0x06] ∧ 0x06 ∈ [0x01, 0x05, 0x06] ∧ (0xFFFFFFFF : Word64).toNat < 2 ^ 32) ∧
    (regOfNumber 0x04 = some .nfull ∧ (0x04 ∈ [0x02, 0x03, 0x04] ∨ 0x30 ≤ 0x04) ∧
      regOfNumber 0x27 = some (.s32 7) ∧ ¬ (0x27 ∈ [0x02, 0x03, 0x04] ∨ 0x30 ≤ 0x27) ∧ regOfNumber 0x30 = some (.s64 0)) ∧
    (∀ n ∈ [0x07, 0x0F, 0x14, 0x17, 0x1D, 0x1F, 0x28, 0x2F, 0x38, 0x3F, 0x59], regOfNumber n = none) := by decide +kernel

/-- ByteAccess: the last byte of MSG and of BLK, of a space the host cannot write, and the whole of DOUT. -/
theorem witness_ByteAccess : State.reset.busy = false ∧ 4095 + [(1 : Byte)].length ≤ spaceSize State.reset .msg ∧
    143 + [(1 : Byte)].length ≤ spaceSize State.reset .blk ∧ 127 + [(1 : Byte)].length ≤ spaceSize State.reset .fb1 ∧
    64 ≤ spaceSize State.reset .dout ∧ Space.blk ∈ [Space.msg, .blk] ∧ Space.fb1 ∈ [Space.fb0, .fb1, .dout] := by decide +kernel

/-- HostAccessFaults: the first byte beyond a space, the first value beyond a register. -/
theorem witness_HostAccessFaults : State.reset.busy = false ∧ [(1 : Byte)] ≠ [] ∧
    spaceSize State.reset .blk < 144 + [(1 : Byte)].length ∧ 64 < 65 ∧ spaceSize State.reset .dout < 65 ∧
    regOfNumber 0x00 = some .cmd ∧ 2 ^ regWidth .cmd ≤ (0x100000000 : Word64).toNat := by decide +kernel

/-- ByteWritesCommute: two indexes and one index. -/
theorem witness_ByteWritesCommute :
    let s : State := { State.reset with done := true }
    s.Inv ∧ s.busy = false ∧ (∃ t, hostWriteBytes .msg 0 [1] s = .next t) ∧
      (∃ t, hostWriteBytes .msg 4095 [2] s = .next t) ∧ (0 : Nat) ≠ 4095 :=
  ⟨inv_after_command none [], rfl, ⟨_, rfl⟩, ⟨_, rfl⟩, by decide⟩

end Sys2Proof.Tests
end

/-! ## What the commands deliver, and that every command keeps it well formed (R26, R27, R39) -/

namespace Sys2Proof.Machine

variable {check : State → Option RejectCode} {op : State → State} {s t : State}

/-- The clauses of `State.Inv` about what the commands deliver: `DLEN` and `DOUT` (R27), `NFULL`, `PADST` and `FB1`
(R26, R57, R58, R129). -/
structure State.ResultsOk (s : State) : Prop where
  dlen : s.dlen.toNat ∈ [0, 16, 20, 28, 32, 48, 64]
  dout : ∀ i, s.dlen.toNat ≤ i → byteAt s .dout i = 0
  nfull : s.nfull.toNat * 64 + s.rem.toNat ≤ s.msgCap.val
  rem : s.rem.toNat ≤ 143
  need2 : s.need2 = true → (56 ≤ s.rem.toNat ∧ s.rem.toNat ≤ 63) ∨ (112 ≤ s.rem.toNat ∧ s.rem.toNat ≤ 127)
  fb1 : s.need2 = false → ∀ i, byteAt s .fb1 i = 0

/-- Two states agree on what the commands deliver, and on the parameter. -/
def SameResults (s t : State) : Prop :=
  (t.dlen = s.dlen ∧ t.dout = s.dout) ∧
    (t.msgCap = s.msgCap ∧ t.nfull = s.nfull ∧ t.rem = s.rem ∧ t.need2 = s.need2 ∧ t.fb1 = s.fb1)

theorem State.Inv.results (h : s.Inv) : s.ResultsOk := { h with }

/-- While no command is in progress the invariant says that the memory is canonical, the results are well formed, and
not both `DONE` and `ERR` are 1. -/
theorem State.Inv.of_idle (hr : s.running = none) (hm : Memory.wf s.msgCap.val s.msg)
    (hf : (s.done && s.err) = false) (h : s.ResultsOk) : s.Inv :=
  { h with
    mem := hm
    status := by simp [State.busy, hr, hf]
    running := fun i hi => by simp [hr] at hi }

theorem State.ResultsOk.congr (h : s.ResultsOk) (hst : SameResults s t) : t.ResultsOk := by
  obtain ⟨⟨hl, ho⟩, hc, hn, hr, h2, hf⟩ := hst
  constructor
  · rw [hl]; exact h.dlen
  · rw [hl]; exact fun i hi => (sameBytes_dout ho i).trans (h.dout i hi)
  · rw [hc, hn, hr]; exact h.nfull
  · rw [hr]; exact h.rem
  · rw [h2, hr]; exact h.need2
  · rw [h2]; exact fun hs i => (sameBytes_fb1 hf i).trans (h.fb1 hs i)

/-- A digest of at most `OUTLEN` bytes, delivered (R27, R35). -/
theorem putDigest_resultsOk (h : s.ResultsOk) {d : List Byte} {n : Nat} (hd : d.length ≤ n)
    (hn : n ∈ [16, 20, 28, 32, 48, 64]) : (putDigest d n s).ResultsOk := by
  have hn64 : n ≤ 64 := by simp at hn; omega
  have hlen : (putDigest d n s).dlen.toNat = n := by
    simp only [putDigest_dlen, BitVec.toNat_ofNat]; omega
  refine { h with dlen := ?_, dout := fun i hi => ?_ }
  · rw [hlen]; exact List.mem_cons_of_mem 0 hn
  · show (fillSpace 64 d).toList.getD i 0 = 0
    rw [getD_fillSpace 64 d (hd.trans hn64), List.getD_eq_default _ _ (hd.trans (hlen ▸ hi))]

/-- A padder's results, delivered: the conditions are those of the invariant on the values themselves. -/
theorem putPad_resultsOk (h : s.ResultsOk) {nfull rem : Nat} {need2 : Bool} {f0 f1 : List Byte}
    (hcap : nfull * 64 + rem ≤ s.msgCap.val) (hrem : rem ≤ 143)
    (hneed : need2 = true → (56 ≤ rem ∧ rem ≤ 63) ∨ (112 ≤ rem ∧ rem ≤ 127))
    (hf1 : need2 = false → ∀ i, (fillSpace 128 f1).toList.getD i 0 = 0) :
    (putPad nfull rem need2 f0 f1 s).ResultsOk := by
  have hr : (putPad nfull rem need2 f0 f1 s).rem.toNat = rem := by
    simp only [putPad_rem, BitVec.toNat_ofNat]; omega
  have hn : (putPad nfull rem need2 f0 f1 s).nfull.toNat ≤ nfull := by
    simpa using Nat.mod_le nfull _
  refine { h with nfull := ?_, rem := ?_, need2 := ?_, fb1 := hf1 }
  · rw [hr]
    show _ ≤ s.msgCap.val
    omega
  · rw [hr]; exact hrem
  · rw [hr]; exact hneed

/-- Zeroed padder results are well formed, whatever stood there. -/
theorem zeroPad_resultsOk (h : s.ResultsOk) : (zeroPad s).ResultsOk :=
  { h with
    nfull := Nat.zero_le _
    rem := Nat.zero_le _
    need2 := fun hn => nomatch hn
    fb1 := fun _ i => getD_zero_space 128 i }

theorem clearOp_resultsOk (s : State) : (clearOp s).ResultsOk where
  dlen := List.mem_cons_self
  dout i _ := getD_zero_space 64 i
  nfull := Nat.zero_le _
  rem := Nat.zero_le _
  need2 hn := nomatch hn
  fb1 _ i := getD_zero_space 128 i

/-! ### The padders' values -/

theorem le_blockSize (a : MdAlg) : 64 ≤ blockSize a := by cases a <;> decide

theorem le_rate (a : SpongeAlg) : 64 ≤ rate a := by cases a <;> decide

theorem lenOk_of_lenCheck (h : lenCheck s = none) : s.lenOk := by
  simpa [lenCheck, State.lenOk] using h

/-- Full blocks of at least 64 bytes and the remainder fit the message space (R26, R57, R186). -/
theorem fullBlocks_remainder_le {n : Nat} (hn : 64 ≤ n) (h : s.lenOk) :
    fullBlocks n s * 64 + remainder n s ≤ s.msgCap.val :=
  calc fullBlocks n s * 64 + remainder n s
      ≤ fullBlocks n s * n + remainder n s := Nat.add_le_add_right (Nat.mul_le_mul_left _ hn) _
    _ = s.len.toNat := by rw [Nat.mul_comm]; exact Nat.div_add_mod _ _
    _ ≤ s.msgCap.val := h

/-- The remainders that leave no room for the suffix (R58). -/
theorem needsSecond_range (a : MdAlg) (s : State) (h : needsSecond a s = true) :
    (56 ≤ remainder (blockSize a) s ∧ remainder (blockSize a) s ≤ 63) ∨
      (112 ≤ remainder (blockSize a) s ∧ remainder (blockSize a) s ≤ 127) := by
  have hlt := remainder_lt (blockSize_pos a) s
  have hgt := (needsSecond_true a s).1 h
  cases a <;> simp only [blockSize, suffixSize] at hlt hgt ⊢ <;> omega

theorem padOp_resultsOk (a : MdAlg) (hl : s.lenOk) (h : s.ResultsOk) : (padOp a s).ResultsOk := by
  have hlt := remainder_lt (blockSize_pos a) s
  have hle := blockSize_le a
  have hcap := fullBlocks_remainder_le (le_blockSize a) hl
  refine putPad_resultsOk h hcap (by omega) (needsSecond_range a s) fun hn i => ?_
  have hf1 : finalBlock1 a s = zeros (blockSize a) := by simp [finalBlock1, hn]
  rw [hf1, getD_fillSpace _ _ (by simpa using hle), getD_zeros]

theorem sppadOp_resultsOk (a : SpongeAlg) (hl : s.lenOk) (h : s.ResultsOk) : (sppadOp a s).ResultsOk := by
  have hlt := remainder_lt (rate_pos a) s
  have hle := rate_le a
  have hcap := fullBlocks_remainder_le (le_rate a) hl
  refine putPad_resultsOk h hcap (by omega) (fun hn => nomatch hn) fun _ i => ?_
  rw [getD_fillSpace _ _ (Nat.zero_le _), List.getD_nil]

/-! ### Every command -/

theorem mdOutLen_mem (a : MdAlg) : mdOutLen a ∈ [16, 20, 28, 32, 48, 64] := by cases a <;> decide

theorem spongeOutLen_mem (a : SpongeAlg) : spongeOutLen a ∈ [16, 20, 28, 32, 48, 64] := by cases a <;> decide

/-- The accept check itself touches no results, so a command keeps them well formed when its operation does. -/
theorem command_resultsOk (h : command check op s = .next t) (hs : s.ResultsOk)
    (hop : check s = none → (op s).ResultsOk) : t.ResultsOk := by
  obtain ⟨-, ⟨-, rfl⟩ | ⟨c, -, -, rfl⟩ | ⟨-, hc, rfl⟩⟩ := command_next h
  · exact hs.congr (by simp [SameResults])
  · exact hs.congr (by simp [SameResults])
  · exact (hop hc).congr (by simp [SameResults])

theorem exec_resultsOk {i : Instr} (h : exec i s = .next t) (hs : s.ResultsOk) : t.ResultsOk := by
  induction i using Instr.familyCases with
  | digestMd a =>
    have hd := putDigest_resultsOk hs (d := mdDigest a s) (List.length_take_le _ _) (mdOutLen_mem a)
    rw [exec_digestMd, digestMdCmd] at h
    exact command_resultsOk h hs fun _ => zeroPad_resultsOk (hd.congr (by simp [SameResults]))
  | digestSponge a =>
    have hd := putDigest_resultsOk hs (d := spongeDigest a s) (List.length_take_le _ _) (spongeOutLen_mem a)
    rw [exec_digestSponge, digestSpongeCmd] at h
    exact command_resultsOk h hs fun _ => zeroPad_resultsOk (hd.congr (by simp [SameResults]))
  | initMd a =>
    rw [exec_initMd, initMd] at h
    exact command_resultsOk h hs fun _ => hs.congr (by simp [SameResults])
  | initSponge a =>
    rw [exec_initSponge, initSponge] at h
    exact command_resultsOk h hs fun _ => hs.congr (by simp [SameResults])
  | compress a src =>
    rw [exec_compress, compressCmd] at h
    exact command_resultsOk h hs fun _ => hs.congr (by simp [SameResults])
  | pad a =>
    rw [exec_pad, padCmd] at h
    exact command_resultsOk h hs fun hc => padOp_resultsOk a (lenOk_of_lenCheck hc) hs
  | serialize a =>
    rw [exec_serialize, serializeCmd] at h
    exact command_resultsOk h hs fun _ => putDigest_resultsOk hs (List.length_take_le _ _) (mdOutLen_mem a)
  | permute =>
    rw [exec_permute, permuteCmd] at h
    exact command_resultsOk h hs fun _ => hs.congr (by simp [SameResults])
  | absorb a src =>
    rw [exec_absorb, absorbCmd] at h
    exact command_resultsOk h hs fun _ => hs.congr (by simp [SameResults])
  | sppad a =>
    rw [exec_sppad, sppadCmd] at h
    exact command_resultsOk h hs fun hc => sppadOp_resultsOk a (lenOk_of_lenCheck hc) hs
  | squeeze a =>
    rw [exec_squeeze, squeezeCmd] at h
    exact command_resultsOk h hs fun _ => putDigest_resultsOk hs (List.length_take_le _ _) (spongeOutLen_mem a)
  | clear =>
    rw [exec_clear, clearCmd] at h
    obtain ⟨-, rfl⟩ := commandAlways_next h
    exact (clearOp_resultsOk s).congr (by simp [SameResults])

/-! ## Every step keeps the invariant -/

/-- The inputs to come and the last host read play no part in the invariant. -/
theorem State.Inv.set_host_readOut (h : s.Inv) (ops : List HostOp) (d : HostData) :
    State.Inv { s with host := ops, readOut := d } := by
  refine { h with running := fun i (hi : s.running = some i) => ?_ }
  obtain ⟨t, ht, hd⟩ := h.running i hi
  have hb : s.busy = true := by simp [State.busy, hi]
  have he : s.err = false := by simpa [hb] using h.status.2.1
  exact exec_done_congr ht hd rfl rfl rfl rfl he

/-- After a command's transition the invariant holds in full: no command is in progress then. -/
theorem exec_inv {i : Instr} (h : exec i s = .next t) (hm : Memory.wf s.msgCap.val s.msg) (hs : s.ResultsOk) :
    t.Inv := by
  obtain ⟨hr, hf⟩ := exec_next_flags h
  obtain ⟨⟨hcap, -⟩, hmsg⟩ := exec_next_outside h
  refine .of_idle hr (by rw [hcap, hmsg]; exact hm) ?_ (exec_resultsOk h hs)
  obtain ⟨-, he⟩ | ⟨hd, -⟩ := hf
  · simp [he]
  · simp [hd]

theorem running_eq_none (h : s.busy = false) : s.running = none := by simpa [State.busy] using h

theorem illegalCommand_inv (h : illegalCommand s = .next t) (hs : s.Inv) : t.Inv := by
  have hres := command_resultsOk h hs.results (fun hc => nomatch hc)
  obtain ⟨hb, ⟨-, rfl⟩ | ⟨c, -, -, rfl⟩ | ⟨-, hc, -⟩⟩ := command_next h
  · exact .of_idle (running_eq_none hb) hs.mem rfl hres
  · exact .of_idle (running_eq_none hb) hs.mem rfl hres
  · cases hc

/-- A command begins its busy interval only if it completes when the interval ends (R13, R188). -/
theorem beginCommand_inv {i : Instr} {u : State} (h : exec i s = .next u) (hd : u.done = true) (hs : s.Inv) :
    (beginCommand i s).Inv := by
  refine { hs with status := ⟨rfl, rfl, rfl⟩, running := fun j hj => ?_ }
  obtain rfl : i = j := by simpa using hj
  exact ⟨u, exec_after_begin h hd, hd⟩

theorem writeReg_inv (hb : s.busy = false) (hs : s.Inv) (r : RegName) (v : Word64) : (writeReg s r v).Inv := by
  obtain ⟨_, _, _, _, _, _, _, h⟩ := writeReg_rest s r v
  rw [h]
  exact .of_idle (running_eq_none hb) hs.mem hs.status.2.2 (hs.results.congr (by simp [SameResults]))

theorem writeBytes_inv (hb : s.busy = false) (hs : s.Inv) {sp : Space} {i : Nat} {bs : List Byte}
    (hl : bs = [] ∨ i + bs.length ≤ spaceSize s sp) : (writeBytes sp s i bs).Inv := by
  have hm := writeBytes_wf hs.mem hl
  obtain ⟨m, b, h⟩ := writeBytes_rest sp s i bs
  rw [h] at hm ⊢
  exact .of_idle (running_eq_none hb) hm hs.status.2.2 (hs.results.congr (by simp [SameResults]))

/-- The reset event establishes the invariant from any state (R198). -/
theorem resetEvent_inv (s : State) : (resetEvent s).Inv :=
  .of_idle rfl ⟨List.Pairwise.nil, fun _ hp => nomatch hp⟩ rfl
    ((clearOp_resultsOk s).congr ⟨⟨rfl, rfl⟩, rfl, rfl, rfl, rfl, rfl⟩)

theorem StepKind.inv (h : StepKind s t) (hs : s.Inv) : t.Inv := by
  cases h with
  | cmd i s' hs' h =>
    obtain rfl | ⟨-, rfl⟩ := hs'
    · exact exec_inv h hs.mem hs.results
    · exact exec_inv h hs.mem (hs.results.congr (by simp [SameResults]))
  | wait i u hr h ht =>
    have hu : u.Inv := exec_inv h hs.mem (hs.results.congr (by simp [SameResults]))
    exact ht ▸ hu.set_host_readOut u.host _
  | illegal h => exact illegalCommand_inv h hs
  | begin i u h hd ht => exact ht ▸ beginCommand_inv h hd hs
  | write reg v hb r hr ht => exact ht ▸ writeReg_inv hb hs r v
  | bytes sp i bs hb hl ht => exact ht ▸ writeBytes_inv hb hs hl
  | read d ht => exact ht ▸ hs.set_host_readOut s.host d
  | reset ht => exact ht ▸ resetEvent_inv s
  | same ht => exact ht ▸ hs

/-! ## Every command answers a next state -/

/-- While no command is in progress no command faults or is refused (R13). -/
theorem exec_answers (i : Instr) (hb : s.busy = false) : ∃ t, exec i s = .next t := by
  obtain ⟨check, op, he, -, -⟩ | ⟨-, he⟩ := exec_shape i
  · rw [he]
    cases herr : s.err with
    | true => exact ⟨_, command_locked hb herr⟩
    | false =>
      cases hc : check s with
      | some c => exact ⟨_, command_reject ⟨hb, herr⟩ hc⟩
      | none => exact ⟨_, command_accept ⟨hb, herr⟩ hc⟩
  · exact ⟨_, (he s).trans (commandAlways_accept hb)⟩

/-- A command that does not complete has changed nothing but `STATUS` (R189, R190). -/
theorem exec_next_status_only {i : Instr} (h : exec i s = .next t) (hd : t.done = false) :
    t = { s with done := false, rejected := t.rejected } := by
  obtain ⟨-, ⟨-, rfl⟩ | ⟨c, -, rfl⟩ | ⟨op, -, -, rfl⟩ | ⟨-, rfl⟩⟩ := exec_next h
  · rfl
  · rfl
  · simp at hd
  · simp at hd

end Sys2Proof.Machine

/-! ## The statements -/

namespace Sys2Proof.Machine

/-- Settles O10: each kind of step keeps the invariant; taking the input does not touch it. -/
theorem invKept : Obligations.InvKept := by
  intro s t hs h
  obtain ⟨hk, -⟩ | ⟨e, rest, -, he⟩ := step_kind h
  · exact hk.inv hs
  · exact (hostStep_kind he).inv (hs.set_host_readOut rest s.readOut)

/-- Settles O12: the accept check answers in each of its cases, and its completed and its rejected transitions are
told apart by `DONE`. -/
theorem everyCommandAnswers : Obligations.EveryCommandAnswers := by
  intro i s hb
  obtain ⟨t, h⟩ := exec_answers i hb
  obtain ⟨hr, hf⟩ := exec_next_flags h
  refine ⟨t, h, by simp [State.busy, hr], hf.imp_right fun ⟨hd, he⟩ => ?_⟩
  exact ⟨hd, he, exec_next_status_only h hd⟩

end Sys2Proof.Machine

/-! ## Frames: what a command's transition leaves as it was (R31, R39) -/

namespace Sys2Proof.Machine

variable {check : State → Option RejectCode} {op : State → State} {s t : State}

/-- A command changes `STATUS`, or performs its operation and changes `STATUS`: a property that `STATUS` plays no part
in holds after the command when it holds before it and after its operation (R188 to R190). -/
theorem command_keeps {P : State → Prop} (h : command check op s = .next t)
    (hP : ∀ u d r, P u → P { u with done := d, rejected := r }) (hs : P s) (hop : P (op s)) : P t := by
  obtain ⟨-, ⟨-, rfl⟩ | ⟨c, -, -, rfl⟩ | ⟨-, -, rfl⟩⟩ := command_next h
  · exact hP s false s.rejected hs
  · exact hP s false (some c) hs
  · exact hP (op s) true (op s).rejected hop

/-- Everything but the engine files and the rest of `STATUS` is as it was. -/
def SameButEngines (s t : State) : Prop :=
  (∀ sp, SameBytes s t sp) ∧ SameOutside s t ∧ t.busy = s.busy ∧ t.len = s.len ∧ t.blkidx = s.blkidx ∧
    t.nfull = s.nfull ∧ t.rem = s.rem ∧ t.need2 = s.need2 ∧ t.dlen = s.dlen

/-- Every engine file but the one the variant selects is as it was (R17, R51). -/
def SameOtherFiles (a : MdAlg) (s t : State) : Prop :=
  (a ≠ .md5 → t.md5 = s.md5) ∧ (a ≠ .sha1 → t.sha1 = s.sha1) ∧ (a ∉ [MdAlg.sha224, .sha256] → t.s32 = s.s32) ∧
    (a ∉ [MdAlg.sha384, .sha512] → t.s64 = s.s64) ∧ t.kec = s.kec

/-- Every engine file but `KEC.A` is as it was (R17). -/
def SameMdFiles (s t : State) : Prop := t.md5 = s.md5 ∧ t.sha1 = s.sha1 ∧ t.s32 = s.s32 ∧ t.s64 = s.s64

/-! ### The operations on an engine file -/

theorem sameButEngines_files (s : State) (m : Vector Word32 4) (h1 : Vector Word32 5) (h2 : Vector Word32 8)
    (h3 : Vector Word64 8) (k : Vector Word64 25) :
    SameButEngines s { s with md5 := m, sha1 := h1, s32 := h2, s64 := h3, kec := k } :=
  ⟨fun sp _ => by cases sp <;> rfl, ⟨rfl, rfl, rfl, rfl⟩, rfl, rfl, rfl, rfl, rfl, rfl, rfl⟩

theorem SameButEngines.refl (s : State) : SameButEngines s s := sameButEngines_files s _ _ _ _ _

theorem SameButEngines.status (u : State) (d : Bool) (r : Option RejectCode) (h : SameButEngines s u) :
    SameButEngines s { u with done := d, rejected := r } :=
  h

theorem initFile_sameButEngines (a : MdAlg) (s : State) : SameButEngines s (initFile a s) := by
  cases a <;> exact sameButEngines_files s _ _ _ _ _

theorem compressFile_sameButEngines (a : MdAlg) (B : List Byte) (s : State) :
    SameButEngines s (compressFile a B s) := by
  cases a <;> exact sameButEngines_files s _ _ _ _ _

theorem SameOtherFiles.refl (a : MdAlg) (s : State) : SameOtherFiles a s s :=
  ⟨fun _ => rfl, fun _ => rfl, fun _ => rfl, fun _ => rfl, rfl⟩

theorem SameOtherFiles.status {a : MdAlg} (u : State) (d : Bool) (r : Option RejectCode) (h : SameOtherFiles a s u) :
    SameOtherFiles a s { u with done := d, rejected := r } :=
  h

theorem initFile_sameOtherFiles (a : MdAlg) (s : State) : SameOtherFiles a s (initFile a s) := by
  cases a <;> simp [SameOtherFiles, initFile]

theorem compressFile_sameOtherFiles (a : MdAlg) (B : List Byte) (s : State) :
    SameOtherFiles a s (compressFile a B s) := by
  cases a <;> simp [SameOtherFiles, compressFile]

theorem zeroFile_sameOtherFiles (a : MdAlg) (s : State) : SameOtherFiles a s (zeroFile a s) := by
  cases a <;> simp [SameOtherFiles, zeroFile]

theorem sameMdFiles_kec (s : State) (k : Vector Word64 25) : SameMdFiles s { s with kec := k } := ⟨rfl, rfl, rfl, rfl⟩

theorem SameMdFiles.status (u : State) (d : Bool) (r : Option RejectCode) (h : SameMdFiles s u) :
    SameMdFiles s { u with done := d, rejected := r } :=
  h

/-- Settles O45: a `STATUS` change and a change of engine files keep the frame, and each of the five operations stores
into an engine file only. -/
theorem engineCommandsFrame : Obligations.EngineCommandsFrame := by
  refine fun s t => ⟨fun i hi h => ?_, fun a i hi h => ?_, fun i hi h => ?_⟩
  · show SameButEngines s t
    obtain ⟨a, rfl⟩ | ⟨a, rfl⟩ | ⟨a, src, rfl⟩ | rfl | ⟨a, src, rfl⟩ := hi
    · rw [exec_initMd, initMd] at h
      exact command_keeps h .status (.refl s) (initFile_sameButEngines a s)
    · rw [exec_initSponge, initSponge] at h
      exact command_keeps h .status (.refl s) (sameButEngines_files s _ _ _ _ _)
    · rw [exec_compress, compressCmd] at h
      exact command_keeps h .status (.refl s) (compressFile_sameButEngines a _ s)
    · rw [exec_permute, permuteCmd] at h
      exact command_keeps h .status (.refl s) (sameButEngines_files s _ _ _ _ _)
    · rw [exec_absorb, absorbCmd] at h
      exact command_keeps h .status (.refl s) (sameButEngines_files s _ _ _ _ _)
  · show SameOtherFiles a s t
    obtain rfl | ⟨src, rfl⟩ := hi
    · rw [exec_initMd, initMd] at h
      exact command_keeps h .status (.refl a s) (initFile_sameOtherFiles a s)
    · rw [exec_compress, compressCmd] at h
      exact command_keeps h .status (.refl a s) (compressFile_sameOtherFiles a _ s)
  · show SameMdFiles s t
    obtain ⟨a, rfl⟩ | rfl | ⟨a, src, rfl⟩ := hi
    · rw [exec_initSponge, initSponge] at h
      exact command_keeps h .status (sameMdFiles_kec s _) (sameMdFiles_kec s _)
    · rw [exec_permute, permuteCmd] at h
      exact command_keeps h .status (sameMdFiles_kec s _) (sameMdFiles_kec s _)
    · rw [exec_absorb, absorbCmd] at h
      exact command_keeps h .status (sameMdFiles_kec s _) (sameMdFiles_kec s _)

/-! ### The padders and the deliveries -/

/-- Everything but FB0, FB1, `NFULL`, `PADST` and the rest of `STATUS` is as it was. -/
def SameButPad (s t : State) : Prop :=
  SameBytes s t .msg ∧ SameBytes s t .blk ∧ SameBytes s t .dout ∧ SameEngines s t ∧ SameOutside s t ∧
    t.busy = s.busy ∧ t.len = s.len ∧ t.blkidx = s.blkidx ∧ t.dlen = s.dlen

/-- Everything but DOUT, `DLEN` and the rest of `STATUS` is as it was. -/
def SameButDout (s t : State) : Prop :=
  (∀ sp, sp ≠ .dout → SameBytes s t sp) ∧ SameEngines s t ∧ SameOutside s t ∧ t.busy = s.busy ∧
    t.len = s.len ∧ t.blkidx = s.blkidx ∧ t.nfull = s.nfull ∧ t.rem = s.rem ∧ t.need2 = s.need2

theorem putPad_sameButPad (n r : Nat) (b : Bool) (f0 f1 : List Byte) (s : State) :
    SameButPad s (putPad n r b f0 f1 s) :=
  ⟨fun _ => rfl, fun _ => rfl, fun _ => rfl, ⟨rfl, rfl, rfl, rfl, rfl⟩, ⟨rfl, rfl, rfl, rfl⟩, rfl, rfl, rfl, rfl⟩

theorem SameButPad.refl (s : State) : SameButPad s s :=
  ⟨fun _ => rfl, fun _ => rfl, fun _ => rfl, ⟨rfl, rfl, rfl, rfl, rfl⟩, ⟨rfl, rfl, rfl, rfl⟩, rfl, rfl, rfl, rfl⟩

theorem SameButPad.status (u : State) (d : Bool) (r : Option RejectCode) (h : SameButPad s u) :
    SameButPad s { u with done := d, rejected := r } :=
  h

theorem putDigest_sameButDout (d : List Byte) (n : Nat) (s : State) : SameButDout s (putDigest d n s) := by
  refine ⟨fun sp hsp a => ?_, ⟨rfl, rfl, rfl, rfl, rfl⟩, ⟨rfl, rfl, rfl, rfl⟩, rfl, rfl, rfl, rfl, rfl, rfl⟩
  cases sp with
  | dout => exact absurd rfl hsp
  | _ => rfl

theorem SameButDout.refl (s : State) : SameButDout s s :=
  ⟨fun _ _ _ => rfl, ⟨rfl, rfl, rfl, rfl, rfl⟩, ⟨rfl, rfl, rfl, rfl⟩, rfl, rfl, rfl, rfl, rfl, rfl⟩

theorem SameButDout.status (u : State) (d : Bool) (r : Option RejectCode) (h : SameButDout s u) :
    SameButDout s { u with done := d, rejected := r } :=
  h

/-- Settles O46: both padders deliver by `putPad`, which stores FB0 and FB1 only. -/
theorem padderCommandsFrame : Obligations.PadderCommandsFrame := by
  intro s t i hi h
  show SameButPad s t
  obtain ⟨a, rfl⟩ | ⟨a, rfl⟩ := hi
  · rw [exec_pad, padCmd] at h
    exact command_keeps h .status (.refl s) (putPad_sameButPad _ _ _ _ _ s)
  · rw [exec_sppad, sppadCmd] at h
    exact command_keeps h .status (.refl s) (putPad_sameButPad _ _ _ _ _ s)

/-- Settles O47: both deliver by `putDigest`, which stores DOUT only. -/
theorem outputCommandsFrame : Obligations.OutputCommandsFrame := by
  intro s t i hi h
  show SameButDout s t
  obtain ⟨a, rfl⟩ | ⟨a, rfl⟩ := hi
  · rw [exec_serialize, serializeCmd] at h
    exact command_keeps h .status (.refl s) (putDigest_sameButDout _ _ s)
  · rw [exec_squeeze, squeezeCmd] at h
    exact command_keeps h .status (.refl s) (putDigest_sameButDout _ _ s)

/-! ### The operands, over every command -/

theorem exec_keeps_busy {i : Instr} (h : exec i s = .next t) : t.busy = s.busy := by
  obtain ⟨hr, -⟩ := exec_next_flags h
  obtain ⟨hb, -⟩ := exec_next h
  rw [hb, State.busy, hr, Option.isSome_none]

/-- What the bytes of MSG are read from, and `MSG_CAP`, are as they were. -/
def SameMsg (s t : State) : Prop := t.msgCap = s.msgCap ∧ t.msg = s.msg ∧ t.msgEpoch = s.msgEpoch

theorem SameMsg.sameBytes (h : SameMsg s t) : SameBytes s t .msg := by
  obtain ⟨-, hmsg, hepoch⟩ := h
  exact sameBytes_msg hmsg hepoch

theorem exec_sameMsg {i : Instr} (h : exec i s = .next t) : SameMsg s t := by
  obtain ⟨⟨hcap, hepoch, -⟩, hmsg⟩ := exec_next_outside h
  exact ⟨hcap, hmsg, hepoch⟩

/-- Only CLEAR writes `LEN`, `BLKIDX` or BLK (R24, R25, R39). -/
theorem exec_keeps_operands {i : Instr} (h : exec i s = .next t) (hi : i ≠ .clear) :
    t.len = s.len ∧ t.blkidx = s.blkidx ∧ SameBytes s t .blk := by
  obtain ⟨-, ⟨-, rfl⟩ | ⟨c, -, rfl⟩ | ⟨op, hop, -, rfl⟩ | ⟨hc, -⟩⟩ := exec_next h
  · exact ⟨rfl, rfl, fun _ => rfl⟩
  · exact ⟨rfl, rfl, fun _ => rfl⟩
  · exact ⟨hop.len s, hop.blkidx s, sameBytes_blk (hop.blk s)⟩
  · exact absurd hc hi

/-- Settles O49: the transition of every command, case by case. -/
theorem operandsKeptByCommands : Obligations.OperandsKeptByCommands :=
  fun _ _ _ h => ⟨(exec_sameMsg h).sameBytes, exec_keeps_operands h⟩

theorem digestMd_ne_clear (a : MdAlg) : Instr.digestMd a ≠ .clear := by cases a <;> decide

theorem digestSponge_ne_clear (a : SpongeAlg) : Instr.digestSponge a ≠ .clear := by cases a <;> decide

/-- Settles O48: the operands are kept as by every command but CLEAR, and of the engine files a digest zeroes the one
its variant selects. -/
theorem digestFrame : Obligations.DigestFrame := by
  refine fun s t => ⟨fun a h => ?_, fun a h => ?_⟩
  · obtain ⟨hlen, hidx, hblk⟩ := exec_keeps_operands h (digestMd_ne_clear a)
    have hfiles : SameOtherFiles a s t := by
      rw [exec_digestMd, digestMdCmd] at h
      exact command_keeps h .status (.refl a s) (zeroFile_sameOtherFiles a _)
    exact ⟨(exec_sameMsg h).sameBytes, hblk, (exec_next_outside h).1, exec_keeps_busy h, hlen, hidx, hfiles⟩
  · obtain ⟨hlen, hidx, hblk⟩ := exec_keeps_operands h (digestSponge_ne_clear a)
    have hfiles : SameMdFiles s t := by
      rw [exec_digestSponge, digestSpongeCmd] at h
      exact command_keeps h .status (sameMdFiles_kec s _) ⟨rfl, rfl, rfl, rfl⟩
    exact ⟨(exec_sameMsg h).sameBytes, hblk, (exec_next_outside h).1, exec_keeps_busy h, hlen, hidx, hfiles⟩

end Sys2Proof.Machine

/-! ## One step and MSG (R28, R41, R198) -/

namespace Sys2Proof.Machine

variable {s t : State}

theorem illegalCommand_sameMsg (h : illegalCommand s = .next t) : SameMsg s t := by
  obtain ⟨-, ⟨-, rfl⟩ | ⟨c, -, -, rfl⟩ | ⟨-, -, rfl⟩⟩ := command_next h <;> exact ⟨rfl, rfl, rfl⟩

theorem issue_sameMsg {w : Word32} (h : issue w s = .next t) : SameMsg s t := by
  unfold issue at h
  split at h
  · exact exec_sameMsg h
  · exact illegalCommand_sameMsg h

theorem issueLong_sameMsg {w : Word32} (h : issueLong w s = .next t) : SameMsg s t := by
  unfold issueLong at h
  split at h
  · split at h
    · rename_i hx
      split at h
      · cases h; exact ⟨rfl, rfl, rfl⟩
      · cases h; exact exec_sameMsg hx
    · rename_i hx
      exact absurd h (hx t)
  · exact illegalCommand_sameMsg h

theorem busyEnds_sameMsg (h : busyEnds s = .next t) : SameMsg s t := by
  unfold busyEnds at h
  split at h
  · exact (exec_sameMsg h :)
  · cases h; exact ⟨rfl, rfl, rfl⟩

theorem hostWait_sameMsg (h : hostWait s = .next t) : SameMsg s t := by
  unfold hostWait at h
  split at h
  · rename_i hu
    cases h; exact (busyEnds_sameMsg hu :)
  · rename_i hx
    exact absurd h (hx t)

theorem writeReg_sameMsg (s : State) (r : RegName) (v : Word64) : SameMsg s (writeReg s r v) := by
  obtain ⟨_, _, _, _, _, _, _, h⟩ := writeReg_rest s r v
  exact h ▸ ⟨rfl, rfl, rfl⟩

theorem writeByte_sameMsg {sp : Space} (hsp : sp ≠ .msg) (s : State) (i : Nat) (b : Byte) :
    SameMsg s (writeByte s sp i b) := by
  cases sp with
  | msg => exact absurd rfl hsp
  | _ => exact ⟨rfl, rfl, rfl⟩

theorem writeBytes_sameMsg {sp : Space} (hsp : sp ≠ .msg) (s : State) (i : Nat) (bs : List Byte) :
    SameMsg s (writeBytes sp s i bs) := by
  induction bs generalizing s i with
  | nil => exact ⟨rfl, rfl, rfl⟩
  | cons b bs ih =>
    obtain ⟨hc, hm, he⟩ := ih (writeByte s sp i b) (i + 1)
    obtain ⟨hc', hm', he'⟩ := writeByte_sameMsg hsp s i b
    exact ⟨hc.trans hc', hm.trans hm', he.trans he'⟩

theorem writeCmd_next {v : Word64} (h : writeCmd v s = .next t) : issue (v.setWidth 32) s = .next t := by
  unfold writeCmd at h
  split at h
  · cases h
  · split at h
    · exact h
    · cases h

theorem hostWrite_next {n : Nat} {v : Word64} (h : hostWrite n v s = .next t) : t = s ∨ ∃ r, t = writeReg s r v := by
  unfold hostWrite at h
  split at h
  · cases h
  · split at h
    · cases h; exact .inl rfl
    · split at h
      · cases h; exact .inr ⟨_, rfl⟩
      · cases h

theorem hostRead_next {n : Nat} (h : hostRead n s = .next t) : ∃ d, t = { s with readOut := d } := by
  unfold hostRead at h
  split at h
  · cases h
  · cases h; exact ⟨_, rfl⟩

theorem hostReadBytes_next {sp : Space} {i j : Nat} (h : hostReadBytes sp i j s = .next t) :
    ∃ d, t = { s with readOut := d } := by
  unfold hostReadBytes at h
  split at h
  · cases h
  · split at h
    · cases h; exact ⟨_, rfl⟩
    · cases h

theorem hostWriteBytes_next {sp : Space} {i : Nat} {bs : List Byte} (h : hostWriteBytes sp i bs s = .next t) :
    (bs = [] ∨ i + bs.length ≤ spaceSize s sp) ∧ t = writeBytes sp s i bs := by
  unfold hostWriteBytes at h
  split at h
  · cases h
  · split at h
    next hl => cases h; exact ⟨hl, rfl⟩
    · cases h

/-- An input other than a write of bytes to MSG and reset does not touch MSG (R28, R39, R41). -/
theorem hostStep_sameMsg {e : HostOp} (h : hostStep e s = .next t) (hw : ∀ i bs, e ≠ .wrb .msg i bs)
    (hr : e ≠ .reset) : SameMsg s t := by
  cases e with
  | wr n v =>
    simp only [hostStep] at h
    split at h
    · exact issue_sameMsg (writeCmd_next h)
    · obtain rfl | ⟨r, rfl⟩ := hostWrite_next h
      · exact ⟨rfl, rfl, rfl⟩
      · exact writeReg_sameMsg s r v
  | rd n =>
    obtain ⟨d, rfl⟩ := hostRead_next h
    exact ⟨rfl, rfl, rfl⟩
  | wrb sp i bs =>
    obtain ⟨-, rfl⟩ := hostWriteBytes_next h
    exact writeBytes_sameMsg (fun hsp => hw i bs (hsp ▸ rfl)) s i bs
  | rdb sp i j =>
    obtain ⟨d, rfl⟩ := hostReadBytes_next h
    exact ⟨rfl, rfl, rfl⟩
  | issue w => exact issue_sameMsg h
  | issueLong w => exact issueLong_sameMsg h
  | wait => exact hostWait_sameMsg h
  | busyEnds => exact busyEnds_sameMsg h
  | reset => exact absurd rfl hr

/-- Settles O50: an input other than a write of bytes to MSG and reset keeps the parameter and MSG, and those two keep
the parameter. -/
theorem msgWrittenByHostOnly : Obligations.MsgWrittenByHostOnly := by
  intro s t h
  unfold step at h
  split at h
  · exact ⟨(busyEnds_sameMsg h).1, .inl (busyEnds_sameMsg h).sameBytes⟩
  next e rest hhost =>
    by_cases hr : e = .reset
    · subst hr
      cases h
      exact ⟨rfl, .inr (.inr ⟨rest, hhost⟩)⟩
    by_cases hw : ∃ i bs, e = .wrb .msg i bs
    · obtain ⟨i, bs, rfl⟩ := hw
      obtain ⟨_, _, hb⟩ := writeBytes_rest .msg { s with host := rest } i bs
      obtain ⟨-, rfl⟩ := hostWriteBytes_next h
      rw [hb]
      exact ⟨rfl, .inr (.inl ⟨i, bs, rest, hhost⟩)⟩
    · have hm := hostStep_sameMsg h (fun i bs heq => hw ⟨i, bs, heq⟩) hr
      exact ⟨hm.1, .inl hm.sameBytes⟩

end Sys2Proof.Machine

/-! ## The step, the flags, the busy interval (R22, R23, R188, R200) -/

namespace Sys2Proof.Machine

variable {s t : State}

theorem issue_of_decode {w : Word32} {i : Instr} (h : decode w = .ok i) (s : State) : issue w s = exec i s := by
  simp only [issue, h]

theorem issue_of_illegal {w : Word32} {e : DecodeError} (h : decode w = .error e) (s : State) :
    issue w s = illegalCommand s := by
  simp only [issue, h]

theorem step_of_host {e : HostOp} {rest : List HostOp} (h : s.host = e :: rest) :
    step s = hostStep e { s with host := rest } := by
  simp only [step, h]

theorem step_of_no_input (h : s.host = []) : step s = busyEnds s := by simp only [step, h]

theorem busyEnds_idle (hb : s.busy = false) : busyEnds s = .next s := by
  simp only [busyEnds, running_eq_none hb]

theorem busyEnds_running {i : Instr} (h : s.running = some i) : busyEnds s = exec i { s with running := none } := by
  simp only [busyEnds, h]

theorem hostWait_of_busyEnds (h : busyEnds s = .next t) :
    hostWait s = .next { t with readOut := .reg ((statusWord t).setWidth 64) } := by
  simp only [hostWait, h]

theorem writeCmd_idle {v : Word64} (hb : s.busy = false) (hv : v.toNat < 2 ^ 32) :
    writeCmd v s = issue (v.setWidth 32) s := by
  rw [writeCmd, if_neg (by simp [hb]), if_pos hv]

/-- Settles O4: the input taken names the command word, and `issue` runs what it decodes to. -/
theorem stepRunsCommand : Obligations.StepRunsCommand := by
  refine ⟨fun s w i rest hd hh => ?_, fun s v i rest hv hd hh hb => ?_, fun s n w i hd => ?_,
    fun s w rest hd hh hs => ?_, fun s hh hb => ?_⟩
  · exact (step_of_host hh).trans (issue_of_decode hd _)
  · rw [step_of_host hh, ← issue_of_decode hd]
    exact writeCmd_idle (s := { s with host := rest }) hb hv
  · exact issue_of_decode hd { s with running := none }
  · exact (step_of_host hh).trans ((issue_of_illegal hd _).trans (illegalCommand_ready hs))
  · exact (step_of_no_input hh).trans (busyEnds_idle hb)

/-- Settles O11: of `BUSY`, `DONE` and `ERR` at most one is 1, and `CODE` is the number of the cause `ERR` stands
for. -/
theorem statusCombinations : Obligations.StatusCombinations := by
  intro s hs
  have hst := hs.status
  unfold statusWord State.code
  unfold State.err at hst ⊢
  generalize s.busy = b at *
  generalize s.done = d at *
  generalize s.rejected = r at *
  revert b d
  cases r with
  | none => decide
  | some c => cases c <;> decide

/-! ### The busy interval -/

theorem statusWord_beginCommand (i : Instr) (s : State) : statusWord (beginCommand i s) = 1 := by
  simp [statusWord, State.busy, State.err, State.code, flagBit]

/-- `STATUS` may be read at any time (R200). -/
theorem hostRead_status (s : State) :
    hostRead 0x01 s = .next { s with readOut := .reg ((statusWord s).setWidth 64) } := by
  have hreg : regOfNumber 0x01 = some .status := rfl
  simp [hostRead, hreg, readNumber, readReg]

theorem statusWord_completed (hr : t.running = none) (hd : t.done = true) (he : t.err = false) : statusWord t = 2 := by
  have hrej : t.rejected = none := by simpa [State.err] using he
  simp [statusWord, State.busy, State.err, State.code, flagBit, hr, hd, hrej]

theorem issueLong_accepted {w : Word32} {i : Instr} (hw : decode w = .ok i) (h : exec i s = .next t)
    (hd : t.done = true) : issueLong w s = .next (beginCommand i s) := by
  simp [issueLong, hw, h, hd]

theorem issueLong_not_done {w : Word32} (h : issue w s = .next t) (hd : t.done = false) : issueLong w s = .next t := by
  cases hw : decode w with
  | ok i =>
    have hi := (issue_of_decode hw s).symm.trans h
    simp [issueLong, hw, hi, hd]
  | error e =>
    have hi := (issue_of_illegal hw s).symm.trans h
    simp [issueLong, hw, hi]

/-- An illegal word does not complete (R185, R190). -/
theorem illegalCommand_not_done (h : illegalCommand s = .next t) : t.done = false := by
  obtain ⟨-, ⟨-, rfl⟩ | ⟨c, -, -, rfl⟩ | ⟨-, hc, -⟩⟩ := command_next h
  · rfl
  · rfl
  · cases hc

/-- A word that completes is a command's. -/
theorem issue_done {w : Word32} (h : issue w s = .next t) (hd : t.done = true) :
    ∃ i, decode w = .ok i ∧ exec i s = .next t := by
  cases hw : decode w with
  | ok i => exact ⟨i, rfl, (issue_of_decode hw s).symm.trans h⟩
  | error e =>
    rw [issue_of_illegal hw] at h
    simp [illegalCommand_not_done h] at hd

/-- Settles O5: acceptance saves the command, and run at the end of the interval it gives the state of the one
transition. -/
theorem busyIntervalIsOneTransition : Obligations.BusyIntervalIsOneTransition := by
  intro w s t hb h
  refine ⟨fun hd => ?_, issueLong_not_done h⟩
  obtain ⟨i, hw, hi⟩ := issue_done h hd
  obtain ⟨hr, ⟨-, he⟩ | ⟨hnd, -⟩⟩ := exec_next_flags hi
  · have hends : busyEnds (beginCommand i s) = .next t :=
      (busyEnds_running rfl).trans (exec_after_begin hi hd)
    have hbusy := statusWord_beginCommand i s
    refine ⟨beginCommand i s, issueLong_accepted hw hi hd, hbusy, ?_, hends, ?_⟩
    · rw [hostRead_status, hbusy]
      rfl
    · rw [hostWait_of_busyEnds hends, statusWord_completed hr hd he]
      rfl
  · simp [hd] at hnd

end Sys2Proof.Machine

/-! ## COMPRESS and ABSORB from MSG (R38, R121) -/

namespace Sys2Proof.Machine

variable {s : State}

theorem exec_compress_msg (a : MdAlg) (h : s.ready) (hl : s.lenOk)
    (hr : (s.blkidx.toNat + 1) * blockSize a ≤ s.len.toNat) :
    exec (.compress a .msg) s =
      .next (complete (compressFile a (msgRead s (s.blkidx.toNat * blockSize a) (blockSize a)) s)) :=
  (exec_compress a .msg s).trans (command_accept h (blockCheck_msg_none hl hr))

/-- Settles O21: the check passes, and each variant is one case of `compressFile` on the bytes `msgRead` lists. -/
theorem compressMsg : Obligations.CompressMsg := by
  intro s h hl block
  refine ⟨fun hr => ⟨exec_compress_msg .md5 h hl hr, exec_compress_msg .sha1 h hl hr, fun a ha => ?_⟩,
    fun hr a ha => ?_⟩
  · obtain rfl | rfl : a = .sha224 ∨ a = .sha256 := by simpa using ha
    · exact exec_compress_msg .sha224 h hl hr
    · exact exec_compress_msg .sha256 h hl hr
  · obtain rfl | rfl : a = .sha384 ∨ a = .sha512 := by simpa using ha
    · exact exec_compress_msg .sha384 h hl hr
    · exact exec_compress_msg .sha512 h hl hr

theorem exec_absorb_msg (a : SpongeAlg) (h : s.ready) (hl : s.lenOk)
    (hr : (s.blkidx.toNat + 1) * rate a ≤ s.len.toNat) :
    exec (.absorb a .msg) s =
      .next (complete { s with kec := absorb (rate a) s.kec (msgRead s (s.blkidx.toNat * rate a) (rate a)) }) :=
  (exec_absorb a .msg s).trans (command_accept h (blockCheck_msg_none hl hr))

theorem getD_msgRead (s : State) {a n k : Nat} (h : k < n) : (msgRead s a n).getD k 0 = msgByte s (a + k) := by
  rw [List.getD_eq_getElem _ _ (by simpa using h), getElem_msgRead]

/-- Settles O35: the check passes, and the lanes XORed in are the bytes `msgRead` lists, eight to a lane. -/
theorem absorbMsg : Obligations.AbsorbMsg := by
  intro a s h hl hr b
  refine ⟨xorBlock (rate a) s.kec (msgRead s (s.blkidx.toNat * rate a) (rate a)), exec_absorb_msg a h hl hr,
    fun i => ?_⟩
  rw [getElem_xorBlock]
  split
  next hi =>
    rw [laneLe64_eq _ _ (by rw [length_msgRead]; omega)]
    iterate 8 rw [getD_msgRead s (by omega)]
    rfl
  next => rfl

end Sys2Proof.Machine

/-! ## The host's accesses (R17, R21, R28, R56) -/

namespace Sys2Proof.Machine

variable {s : State}

/-! ### Registers -/

theorem regOfNumber_numberOfReg (r : RegName) : regOfNumber (numberOfReg r) = some r := by
  cases r
  case md5 i | sha1 i | s32 i | s64 i | kec i => revert i; decide
  all_goals rfl

theorem readNumber_of_reg {n : Nat} {r : RegName} (h : regOfNumber n = some r) (s : State) :
    readNumber s n = readReg s r := by
  simp only [readNumber, h]

theorem readNumber_of_none {n : Nat} (h : regOfNumber n = none) (s : State) : readNumber s n = 0 := by
  simp only [readNumber, h]

theorem readNumber_numberOfReg (s : State) (r : RegName) : readNumber s (numberOfReg r) = readReg s r :=
  readNumber_of_reg (regOfNumber_numberOfReg r) s

theorem hostRead_idle (hb : s.busy = false) (n : Nat) :
    hostRead n s = .next { s with readOut := .reg (readNumber s n) } := by
  simp [hostRead, hb]

theorem hostWrite_reg {n : Nat} {r : RegName} {v : Word64} (hb : s.busy = false) (h : regOfNumber n = some r)
    (hv : v.toNat < 2 ^ regWidth r) : hostWrite n v s = .next (writeReg s r v) := by
  simp [hostWrite, hb, h, hv]

theorem hostWrite_none {n : Nat} {v : Word64} (hb : s.busy = false) (h : regOfNumber n = none) :
    hostWrite n v s = .next s := by
  simp [hostWrite, hb, h]

theorem hostWrite_wide {n : Nat} {r : RegName} {v : Word64} (hb : s.busy = false) (h : regOfNumber n = some r)
    (hv : 2 ^ regWidth r ≤ v.toNat) : hostWrite n v s = .fault (.valueTooWide n) := by
  simp [hostWrite, hb, h, Nat.not_lt.2 hv]

theorem writeCmd_wide {v : Word64} (hb : s.busy = false) (hv : 2 ^ 32 ≤ v.toNat) :
    writeCmd v s = .fault (.valueTooWide 0) := by
  rw [writeCmd, if_neg (by simp [hb]), if_neg (Nat.not_lt.2 hv)]

/-- `WR` of every number but `CMD`'s is a write of a register (R22, R56). -/
theorem hostStep_wr {n : Nat} (h : regOfNumber n ≠ some .cmd) (v : Word64) (s : State) :
    hostStep (.wr n v) s = hostWrite n v s :=
  if_neg h

theorem hostStep_wr_reg {n : Nat} {r : RegName} {v : Word64} (hb : s.busy = false) (h : regOfNumber n = some r)
    (hr : r ≠ .cmd) (hv : v.toNat < 2 ^ regWidth r) : hostStep (.wr n v) s = .next (writeReg s r v) :=
  (hostStep_wr (by simp [h, hr]) v s).trans (hostWrite_reg hb h hv)

/-- A write of a writable register, read by number: the number written reads the value, every other as before
(R17, R21). -/
theorem readNumber_writeReg {n : Nat} {r : RegName} {v : Word64} (hn : regOfNumber n = some r)
    (hv : v.toNat < 2 ^ regWidth r) (hr : r ∉ [RegName.cmd, .status, .nfull, .padst, .dlen]) (s : State) (m : Nat) :
    readNumber (writeReg s r v) m = if m = n then v else readNumber s m := by
  cases hm : regOfNumber m with
  | none =>
    have hmn : m ≠ n := fun h => by simp [h, hn] at hm
    rw [if_neg hmn, readNumber_of_none hm, readNumber_of_none hm]
  | some q =>
    have hqr : q = r ↔ m = n := by
      constructor
      · rintro rfl
        rw [← numberOfReg_of hm, numberOfReg_of hn]
      · rintro rfl
        exact Option.some.inj (hm.symm.trans hn)
    rw [readNumber_of_reg hm, readNumber_of_reg hm, readReg_writeReg s r q v hv hr]
    simp only [hqr]

/-- A write of a register stores no byte and leaves what stands outside the commands. -/
theorem writeReg_sameBytes (s : State) (r : RegName) (v : Word64) (sp : Space) :
    SameBytes s (writeReg s r v) sp := by
  obtain ⟨_, _, _, _, _, _, _, h⟩ := writeReg_rest s r v
  rw [h]
  cases sp <;> exact fun _ => rfl

theorem writeReg_sameOutside (s : State) (r : RegName) (v : Word64) : SameOutside s (writeReg s r v) := by
  obtain ⟨_, _, _, _, _, _, _, h⟩ := writeReg_rest s r v
  rw [h]
  exact ⟨rfl, rfl, rfl, rfl⟩

/-- The widths by number (R17, R21). -/
theorem regWidth_numberOfReg (r : RegName) :
    regWidth r = if numberOfReg r ∈ [0x02, 0x03, 0x04] ∨ 0x30 ≤ numberOfReg r then 64 else 32 := by
  cases r
  case md5 i | sha1 i | s32 i | s64 i | kec i => revert i; decide
  all_goals rfl

/-- Settles O51: by number and by name a register is the same register, and a write is read back by name. -/
theorem registerAccess : Obligations.RegisterAccess := by
  intro s hb
  refine ⟨hostRead_idle hb, ?reads, ?writes, ?widths, ?readOnly, ?nfull, ?unassigned, regOfNumber_none⟩
  case reads =>
    have hread := readNumber_numberOfReg s
    exact ⟨rfl, rfl, rfl, rfl, fun i => hread (.md5 i), fun i => hread (.sha1 i), fun i => hread (.s32 i),
      fun i => hread (.s64 i), fun i => hread (.kec i)⟩
  case writes =>
    intro n r v hn hv hr
    have hcmd : r ≠ .cmd := fun h => hr (by simp [h])
    have hread := readNumber_writeReg hn hv hr s
    exact ⟨writeReg s r v, hostStep_wr_reg hb hn hcmd hv, (hread n).trans (if_pos rfl),
      fun m hm => (hread m).trans (if_neg hm), writeReg_sameBytes s r v, writeReg_sameOutside s r v⟩
  case widths =>
    intro n r hn
    rw [← numberOfReg_of hn]
    exact regWidth_numberOfReg r
  case readOnly =>
    intro n v hn hv
    obtain rfl | rfl | rfl : n = 0x01 ∨ n = 0x05 ∨ n = 0x06 := by simpa using hn
    · exact hostStep_wr_reg (n := 0x01) (r := .status) hb rfl (by decide) hv
    · exact hostStep_wr_reg (n := 0x05) (r := .padst) hb rfl (by decide) hv
    · exact hostStep_wr_reg (n := 0x06) (r := .dlen) hb rfl (by decide) hv
  case nfull => exact fun v => hostStep_wr_reg (n := 0x04) (r := .nfull) hb rfl (by decide) v.isLt
  case unassigned =>
    intro n v hn
    have hcmd : regOfNumber n ≠ some .cmd := by simp [hn]
    exact ⟨(hostStep_wr hcmd v s).trans (hostWrite_none hb hn), readNumber_of_none hn s⟩

/-! ### The read-only registers and reset -/

/-- Settles O54: each flag stands at its own bit, and zero extension keeps the bits. -/
theorem statusRegisterBits : Obligations.StatusRegisterBits := by
  refine fun s => ⟨?_, ?_, rfl⟩
  · show (statusWord s).setWidth 64 = _
    unfold statusWord State.code State.err
    generalize s.busy = b
    generalize s.done = d
    generalize s.rejected = r
    revert b d
    cases r with
    | none => decide
    | some c => cases c <;> decide
  · show (s.rem.setWidth 32 ||| flagBit s.need2 8).setWidth 64 = _
    have hbit : ∀ b, (flagBit b 8).setWidth 64 = (BitVec.ofBool b).setWidth 64 <<< 8 := by decide
    rw [BitVec.setWidth_or, hbit, BitVec.setWidth_setWidth (by decide)]

/-- Settles O7: every field a number or an index reads is zero, and nothing of MSG is listed. -/
theorem resetState : Obligations.ResetState := by
  refine ⟨fun n => ?_, fun a => ?_, fun a => rfl, rfl⟩
  · cases hn : regOfNumber n with
    | none => exact readNumber_of_none hn _
    | some r =>
      rw [readNumber_of_reg hn]
      cases r
      case status | padst | dlen => decide
      all_goals simp [readReg, State.reset]
  · exact ⟨getD_zero_space 144 a, getD_zero_space 144 a, getD_zero_space 128 a, getD_zero_space 64 a⟩

/-- Settles O9: no command is in progress at reset, and all that the commands deliver is zero, as after CLEAR. -/
theorem invAtReset : Obligations.InvAtReset :=
  .of_idle rfl Memory.reset_wf rfl ((clearOp_resultsOk State.reset).congr ⟨⟨rfl, rfl⟩, rfl, rfl, rfl, rfl, rfl⟩)

/-! ### Bytes -/

theorem hostWriteBytes_idle {sp : Space} {i : Nat} {bs : List Byte} (hb : s.busy = false)
    (h : i + bs.length ≤ spaceSize s sp) : hostWriteBytes sp i bs s = .next (writeBytes sp s i bs) := by
  simp [hostWriteBytes, hb, h]

theorem hostReadBytes_idle {sp : Space} {j : Nat} (hb : s.busy = false) (h : j ≤ spaceSize s sp) (i : Nat) :
    hostReadBytes sp i j s =
      .next { s with readOut := .bytes ((List.range (j - i)).map fun k => byteAt s sp (i + k)) } := by
  simp [hostReadBytes, hb, h]

theorem hostWriteBytes_beyond {sp : Space} {i : Nat} {bs : List Byte} (hb : s.busy = false) (hbs : bs ≠ [])
    (h : spaceSize s sp < i + bs.length) :
    hostWriteBytes sp i bs s = .fault (.noSuchByte sp (max i (spaceSize s sp))) := by
  simp [hostWriteBytes, hb, hbs, Nat.not_le.2 h]

theorem hostReadBytes_beyond {sp : Space} {i j : Nat} (hb : s.busy = false) (hij : i < j) (h : spaceSize s sp < j) :
    hostReadBytes sp i j s = .fault (.noSuchByte sp (max i (spaceSize s sp))) := by
  simp [hostReadBytes, hb, Nat.not_le.2 hij, Nat.not_le.2 h]

/-- A write of bytes changes no register (R28). -/
theorem readNumber_writeBytes (sp : Space) (s : State) (i : Nat) (bs : List Byte) (n : Nat) :
    readNumber (writeBytes sp s i bs) n = readNumber s n := by
  obtain ⟨_, _, h⟩ := writeBytes_rest sp s i bs
  rw [h]
  cases hn : regOfNumber n with
  | none => rw [readNumber_of_none hn, readNumber_of_none hn]
  | some r =>
    rw [readNumber_of_reg hn, readNumber_of_reg hn]
    cases r <;> rfl

theorem writeBytes_sameOutside (sp : Space) (s : State) (i : Nat) (bs : List Byte) :
    SameOutside s (writeBytes sp s i bs) := by
  obtain ⟨_, _, h⟩ := writeBytes_rest sp s i bs
  rw [h]
  exact ⟨rfl, rfl, rfl, rfl⟩

/-- Settles O52: a byte is read back by its space and index, and the spaces the host cannot write ignore the
write. -/
theorem byteAccess : Obligations.ByteAccess := by
  intro s sp i bs hb hl
  refine ⟨fun hsp => ?_, fun hsp => ?_, fun j hj => hostReadBytes_idle hb hj i⟩
  · have hread := fun sp' a => byteAt_writeBytes s sp sp' i a bs hsp hl
    refine ⟨writeBytes sp s i bs, hostWriteBytes_idle hb hl, fun a => ?_, fun sp' hne a => ?_,
      readNumber_writeBytes sp s i bs, writeBytes_sameOutside sp s i bs⟩
    · simp [hread]
    · simp [hread, hne]
  · have hw := hostWriteBytes_idle hb hl
    rw [writeBytes_ignored s sp i bs hsp] at hw
    exact hw

/-- Settles O53: the index in the fault is the first one accessed outside the space, and `CMD` faults as any
register does. -/
theorem hostAccessFaults : Obligations.HostAccessFaults := by
  intro s hb
  refine ⟨fun sp i bs hbs h => ?_, fun sp i j hij h => ?_, fun n r v hn hv => ?_⟩
  · have hpos := List.length_pos_iff.2 hbs
    exact ⟨_, hostWriteBytes_beyond hb hbs h, Nat.le_max_right _ _, Nat.max_lt.2 ⟨by omega, h⟩⟩
  · exact ⟨_, hostReadBytes_beyond hb hij h, Nat.le_max_right _ _, Nat.max_lt.2 ⟨hij, h⟩⟩
  · by_cases hr : r = .cmd
    · subst hr
      obtain rfl := numberOfReg_of hn
      exact writeCmd_wide hb hv
    · exact (hostStep_wr (by simp [hn, hr]) v s).trans (hostWrite_wide hb hn hv)

/-! ### The message memory in canonical form -/

/-- Writes at two indexes commute (notes/assumptions/2.md). -/
theorem Memory.write_comm {cap i j : Nat} {m : Memory} (hm : Memory.wf cap m) (hi : i < cap) (hj : j < cap)
    (b c : Byte) (hij : i ≠ j) :
    Memory.write (Memory.write m i b) j c = Memory.write (Memory.write m j c) i b := by
  refine Memory.ext_of_lookup (Memory.write_wf c (Memory.write_wf b hm hi) hj)
    (Memory.write_wf b (Memory.write_wf c hm hj) hi) fun a => ?_
  simp only [Memory.lookup_write]
  by_cases ha : a = j
  · simp [ha, Ne.symm hij]
  · simp [ha]

/-- Of two writes at one index the second is left (notes/assumptions/2.md). -/
theorem Memory.write_write {cap i : Nat} {m : Memory} (hm : Memory.wf cap m) (hi : i < cap) (b c : Byte) :
    Memory.write (Memory.write m i b) i c = Memory.write m i c := by
  refine Memory.ext_of_lookup (Memory.write_wf c (Memory.write_wf b hm hi) hi) (Memory.write_wf c hm hi) fun a => ?_
  simp only [Memory.lookup_write]
  by_cases ha : a = i <;> simp [ha]

/-- A write of one byte of MSG that completes lies in the space. -/
theorem hostWriteBytes_msg_one {t : State} {i : Nat} {b : Byte} (h : hostWriteBytes .msg i [b] s = .next t) :
    i < s.msgCap.val ∧ t = { s with msg := Memory.write s.msg i b } := by
  obtain ⟨hl, rfl⟩ := hostWriteBytes_next h
  exact ⟨by simpa [spaceSize] using hl, rfl⟩

theorem hostWriteBytes_msg_idle {i : Nat} {b : Byte} (hb : s.busy = false) (hi : i < s.msgCap.val) :
    hostWriteBytes .msg i [b] s = .next { s with msg := Memory.write s.msg i b } :=
  hostWriteBytes_idle (bs := [b]) hb hi

/-- Settles O55: both writes lie in the space, so the two lists are in canonical form and look up the same. -/
theorem byteWritesCommute : Obligations.ByteWritesCommute := by
  intro s t t' i j b c hs hb h h'
  obtain ⟨hi, rfl⟩ := hostWriteBytes_msg_one h
  obtain ⟨hj, rfl⟩ := hostWriteBytes_msg_one h'
  have hwr_j := hostWriteBytes_msg_idle (s := { s with msg := Memory.write s.msg i b }) (b := c) hb hj
  have hwr_i := hostWriteBytes_msg_idle (s := { s with msg := Memory.write s.msg j c }) (b := b) hb hi
  refine ⟨fun hij => ?_, fun hij => ?_⟩
  · rw [hwr_j, hwr_i]
    simp only [Memory.write_comm hs.mem hi hj b c hij]
  · subst hij
    rw [hwr_j]
    simp only [Memory.write_write hs.mem hi b c]

end Sys2Proof.Machine

/-! ## COMPRESS and ABSORB from a buffer (R38, R76, R121) -/

namespace Sys2Proof.Machine

variable {s : State}

theorem take_eq_map_range (l : List Byte) {n : Nat} (h : n ≤ l.length) :
    l.take n = (List.range n).map fun k => l.getD k 0 := by
  simpa [slice] using slice_eq l 0 n (by omega)

theorem getD_spaceBytes (s : State) (sp : Space) {n k : Nat} (h : k < n) :
    (spaceBytes s sp n).getD k 0 = byteAt s sp k := by
  simp [spaceBytes, h]

/-- The block sources other than MSG, each with the space it names (R38). -/
theorem buffer_cases {src : Src} {sp : Space}
    (h : (src, sp) ∈ [(Src.blk, Space.blk), (.fb0, .fb0), (.fb1, .fb1)]) :
    (src = .blk ∧ sp = .blk) ∨ (src = .fb0 ∧ sp = .fb0) ∨ (src = .fb1 ∧ sp = .fb1) := by
  simpa using h

/-- A buffer as the block source: the block is the first bytes of that space, and
no check stands before the command (R38, R186). -/
theorem loadBlock_buffer {src : Src} {sp : Space}
    (h : (src, sp) ∈ [(Src.blk, Space.blk), (.fb0, .fb0), (.fb1, .fb1)]) {n : Nat} (hn : n ≤ spaceSize s sp) :
    loadBlock src n s = spaceBytes s sp n ∧ blockCheck src n s = none := by
  obtain ⟨rfl, rfl⟩ | ⟨rfl, rfl⟩ | ⟨rfl, rfl⟩ := buffer_cases h
  · exact ⟨take_eq_map_range s.blk.toList (by simpa [spaceSize] using hn), rfl⟩
  · exact ⟨take_eq_map_range s.fb0.toList (by simpa [spaceSize] using hn), rfl⟩
  · exact ⟨take_eq_map_range s.fb1.toList (by simpa [spaceSize] using hn), rfl⟩

/-- Every buffer has room for a block of every Merkle–Damgård variant (R28, R51). -/
theorem blockSize_le_spaceSize {src : Src} {sp : Space}
    (h : (src, sp) ∈ [(Src.blk, Space.blk), (.fb0, .fb0), (.fb1, .fb1)]) (a : MdAlg) (s : State) :
    blockSize a ≤ spaceSize s sp := by
  have hbs : blockSize a ≤ 128 := by cases a <;> decide
  obtain ⟨rfl, rfl⟩ | ⟨rfl, rfl⟩ | ⟨rfl, rfl⟩ := buffer_cases h
  · exact hbs.trans (by simp [spaceSize])
  · exact hbs.trans (by simp [spaceSize])
  · exact hbs

theorem exec_compress_buffer {src : Src} {sp : Space}
    (hsrc : (src, sp) ∈ [(Src.blk, Space.blk), (.fb0, .fb0), (.fb1, .fb1)]) (a : MdAlg) (h : s.ready) :
    exec (.compress a src) s = .next (complete (compressFile a (spaceBytes s sp (blockSize a)) s)) := by
  obtain ⟨hload, hcheck⟩ := loadBlock_buffer hsrc (blockSize_le_spaceSize hsrc a s)
  rw [exec_compress, compressCmd, command_accept h hcheck, hload]

/-- Settles O20: no check stands before a buffer, and each variant is one case of `compressFile` on its bytes. -/
theorem compressBuffer : Obligations.CompressBuffer := by
  intro src sp hsrc s h
  refine ⟨exec_compress_buffer hsrc .md5 h, exec_compress_buffer hsrc .sha1 h, fun a ha => ?_, fun a ha => ?_⟩
  · obtain rfl | rfl : a = .sha224 ∨ a = .sha256 := by simpa using ha
    · exact exec_compress_buffer hsrc .sha224 h
    · exact exec_compress_buffer hsrc .sha256 h
  · obtain rfl | rfl : a = .sha384 ∨ a = .sha512 := by simpa using ha
    · exact exec_compress_buffer hsrc .sha384 h
    · exact exec_compress_buffer hsrc .sha512 h

/-- The buffers of ABSORB are buffers of COMPRESS with room for a block of every sponge variant (R28, R51). -/
theorem absorbSrc_buffer {src : SpongeSrc} {sp : Space} (h : (src, sp) ∈ [(SpongeSrc.blk, Space.blk), (.fb0, .fb0)])
    (a : SpongeAlg) (s : State) :
    (absorbSrc src, sp) ∈ [(Src.blk, Space.blk), (.fb0, .fb0), (.fb1, .fb1)] ∧ rate a ≤ spaceSize s sp := by
  have hr : rate a ≤ 144 := by cases a <;> decide
  obtain ⟨rfl, rfl⟩ | ⟨rfl, rfl⟩ : (src = .blk ∧ sp = .blk) ∨ (src = .fb0 ∧ sp = .fb0) := by simpa using h
  · exact ⟨by simp [absorbSrc], hr⟩
  · exact ⟨by simp [absorbSrc], hr⟩

theorem exec_absorb_buffer {src : SpongeSrc} {sp : Space}
    (hsrc : (src, sp) ∈ [(SpongeSrc.blk, Space.blk), (.fb0, .fb0)]) (a : SpongeAlg) (h : s.ready) :
    exec (.absorb a src) s =
      .next (complete { s with kec := absorb (rate a) s.kec (spaceBytes s sp (rate a)) }) := by
  obtain ⟨hmem, hn⟩ := absorbSrc_buffer hsrc a s
  obtain ⟨hload, hcheck⟩ := loadBlock_buffer hmem hn
  rw [exec_absorb, absorbCmd, command_accept h hcheck, hload]

/-- Settles O34: no check stands before a buffer, and the lanes XORed in are the bytes of its space, eight to a
lane. -/
theorem absorbBuffer : Obligations.AbsorbBuffer := by
  intro src sp hsrc a s h
  refine ⟨xorBlock (rate a) s.kec (spaceBytes s sp (rate a)), exec_absorb_buffer hsrc a h, fun i => ?_⟩
  rw [getElem_xorBlock]
  split
  next hi =>
    rw [laneLe64_eq _ _ (by simp [spaceBytes]; omega)]
    iterate 8 rw [getD_spaceBytes s sp (by omega)]
  next => rfl

end Sys2Proof.Machine

/-! ## SERIALIZE (R35, R77) -/

namespace Sys2Proof.Machine

variable {s : State}

/-- Byte k of a file of words serialized one after another, `w` bytes each (R35). -/
theorem getD_flatMap_toList {α : Type} {n : Nat} (H : Vector α n) {f : α → List Byte} {w k : Nat}
    (hf : ∀ a, (f a).length = w) (hw : 0 < w) (hk : k / w < n) :
    (H.toList.flatMap f).getD k 0 = (f H[k / w]).getD (k % w) 0 := by
  have hlen : k < w * H.toList.length := by simpa [Nat.mul_comm] using (Nat.div_lt_iff_lt_mul hw).1 hk
  rw [getD_flatMap f w hw hf _ k H[k / w] hlen, List.getD_eq_getElem H.toList _ (by simpa using hk),
    Vector.getElem_toList]

theorem getD_flatMap_toLe {W n : Nat} (H : Vector (BitVec W) n) {w k : Nat} (hw : 0 < w) (hk : k / w < n) :
    (H.toList.flatMap fun h => toLe h.toNat w).getD k 0 = H[k / w].extractLsb' (8 * (k % w)) 8 := by
  rw [getD_flatMap_toList H (fun _ => length_toLe _ w) hw hk, getD_toLe _ _ _ (Nat.mod_lt k hw)]

theorem getD_flatMap_toBe {W n : Nat} (H : Vector (BitVec W) n) {w k : Nat} (hw : 0 < w) (hk : k / w < n) :
    (H.toList.flatMap fun h => toBe h.toNat w).getD k 0 = H[k / w].extractLsb' (8 * (w - 1 - k % w)) 8 := by
  rw [getD_flatMap_toList H (fun _ => length_toBe _ w) hw hk, getD_toBe _ _ _ (Nat.mod_lt k hw)]

theorem exec_serialize_ready (a : MdAlg) (h : s.ready) :
    exec (.serialize a) s = .next (complete (putDigest (serialization a s) (mdOutLen a) s)) :=
  (exec_serialize a s).trans (command_accept h rfl)

/-- What SERIALIZE of a variant delivers, given the bytes of its engine file up to `OUTLEN` (R35). -/
theorem exec_serialize_delivers (a : MdAlg) (h : s.ready) {byte : ∀ k, k < mdOutLen a → Byte}
    (hbyte : ∀ k (hk : k < mdOutLen a), (fileBytes a s).getD k 0 = byte k hk) :
    ∃ d : Vector Byte 64,
      exec (.serialize a) s = .next { s with done := true, dout := d, dlen := BitVec.ofNat 8 (mdOutLen a) } ∧
      ∀ k : Fin 64, d[k] = if hk : k.val < mdOutLen a then byte k hk else 0 := by
  refine ⟨fillSpace 64 (serialization a s), exec_serialize_ready a h, fun k => ?_⟩
  rw [getElem_fillSpace, serialization, getD_take]
  split
  next hk => exact hbyte k hk
  next => rfl

/-- Settles O29: each variant's engine file, byte by byte in its byte order. -/
theorem serializeDelivers : Obligations.SerializeDelivers := by
  intro s h
  have hmd5 := exec_serialize_delivers .md5 h fun k (hk : k < 16) =>
    getD_flatMap_toLe s.md5 (w := 4) (k := k) (by decide) (by omega)
  have hsha1 := exec_serialize_delivers .sha1 h fun k (hk : k < 20) =>
    getD_flatMap_toBe s.sha1 (w := 4) (k := k) (by decide) (by omega)
  have hsha224 := exec_serialize_delivers .sha224 h fun k (hk : k < 28) =>
    getD_flatMap_toBe s.s32 (w := 4) (k := k) (by decide) (by omega)
  have hsha256 := exec_serialize_delivers .sha256 h fun k (hk : k < 32) =>
    getD_flatMap_toBe s.s32 (w := 4) (k := k) (by decide) (by omega)
  have hsha384 := exec_serialize_delivers .sha384 h fun k (hk : k < 48) =>
    getD_flatMap_toBe s.s64 (w := 8) (k := k) (by decide) (by omega)
  obtain ⟨d, hexec, hd⟩ := exec_serialize_delivers .sha512 h fun k (hk : k < 64) =>
    getD_flatMap_toBe s.s64 (w := 8) (k := k) (by decide) (by omega)
  exact ⟨hmd5, hsha1, hsha224, hsha256, hsha384, d, hexec, fun k => (hd k).trans (dif_pos k.isLt)⟩

end Sys2Proof.Machine

/-! ## Decoding, encoding and the legality of R54 (R49 to R55) -/

namespace Sys2Proof

/-! ### The decoder against the encoder -/

/-- The lookup finds every command under its own word, which no earlier row of the table bears (R53). -/
@[simp] theorem decode_encode (i : Instr) : decode (encode i) = .ok i := by cases i <;> rfl

theorem decode_eq_ok_iff {w : Word32} {i : Instr} : decode w = .ok i ↔ w = encode i :=
  ⟨fun h => opcodeTable_encode _ (decode_ok_mem h), fun h => h ▸ decode_encode i⟩

/-- Settles O2: a hit of the lookup is a row of the table, whose word is the encoder's, and the lookup of a command's
own word finds that command. -/
theorem decodeIsExactMatch : Obligations.DecodeIsExactMatch := fun _ _ => decode_eq_ok_iff

/-- The decoder refuses exactly the words that the encoder composes for no command. -/
theorem decode_eq_error_iff {w : Word32} : decode w = .error .errIllegal ↔ ∀ i, w ≠ encode i := by
  simp only [ne_eq, ← decode_eq_ok_iff]
  cases decode w <;> simp

/-! ### The words by family -/

theorem encode_digestMd (a : MdAlg) : encode (.digestMd a) = commandWord 0x1 (mdCode a) 0 := by cases a <;> rfl

theorem encode_digestSponge (a : SpongeAlg) : encode (.digestSponge a) = commandWord 0x1 (spongeCode a) 0 := by
  cases a <;> rfl

theorem encode_initMd (a : MdAlg) : encode (.initMd a) = commandWord 0x2 (mdCode a) 0 := by cases a <;> rfl

theorem encode_initSponge (a : SpongeAlg) : encode (.initSponge a) = commandWord 0x2 (spongeCode a) 0 := by
  cases a <;> rfl

theorem encode_compress (a : MdAlg) (src : Src) :
    encode (.compress a src) = commandWord 0x3 (mdCode a) (srcCode src) := by cases a <;> cases src <;> rfl

theorem encode_pad (a : MdAlg) : encode (.pad a) = commandWord 0x4 (mdCode a) 0 := by cases a <;> rfl

theorem encode_serialize (a : MdAlg) : encode (.serialize a) = commandWord 0x5 (mdCode a) 0 := by cases a <;> rfl

theorem encode_absorb (a : SpongeAlg) (src : SpongeSrc) :
    encode (.absorb a src) = commandWord 0x7 (spongeCode a) (srcCode (Machine.absorbSrc src)) := by
  cases a <;> cases src <;> rfl

theorem encode_sppad (a : SpongeAlg) : encode (.sppad a) = commandWord 0x8 (spongeCode a) 0 := by cases a <;> rfl

theorem encode_squeeze (a : SpongeAlg) : encode (.squeeze a) = commandWord 0x9 (spongeCode a) 0 := by
  cases a <;> rfl

/-! ### Every legal code is the code of a variant or a source (R50, R52, R53) -/

theorem exists_mdCode {c : BitVec 4} (h : ¬c = 0 ∧ ¬c = 3) (hlt : c.toNat < 8) : ∃ a, mdCode a = c := by
  have hall : ∀ c : BitVec 4, (¬c = 0 ∧ ¬c = 3) → c.toNat < 8 →
      c ∈ [MdAlg.md5, .sha1, .sha224, .sha256, .sha384, .sha512].map mdCode := by decide
  obtain ⟨a, -, ha⟩ := List.mem_map.1 (hall c h hlt)
  exact ⟨a, ha⟩

theorem exists_spongeCode {c : BitVec 4} (hle : 8 ≤ c.toNat) : ∃ a, spongeCode a = c := by
  have hall : ∀ c : BitVec 4, 8 ≤ c.toNat →
      c ∈ [SpongeAlg.sha3_224, .sha3_256, .sha3_384, .sha3_512, .keccak224, .keccak256, .keccak384,
        .keccak512].map spongeCode := by decide
  obtain ⟨a, -, ha⟩ := List.mem_map.1 (hall c hle)
  exact ⟨a, ha⟩

theorem exists_mdCode_or_spongeCode {c : BitVec 4} (h : ¬c = 0 ∧ ¬c = 3) :
    (∃ a, mdCode a = c) ∨ ∃ a, spongeCode a = c :=
  (Nat.lt_or_ge c.toNat 8).imp (exists_mdCode h) exists_spongeCode

theorem exists_srcCode (c : BitVec 2) : ∃ src, srcCode src = c := by
  have hall : ∀ c : BitVec 2, c ∈ [Src.blk, .msg, .fb0, .fb1].map srcCode := by decide
  obtain ⟨src, -, hsrc⟩ := List.mem_map.1 (hall c)
  exact ⟨src, hsrc⟩

theorem exists_srcCode_absorbSrc {c : BitVec 2} (h : ¬c = 3) : ∃ src, srcCode (Machine.absorbSrc src) = c := by
  obtain ⟨src, rfl⟩ := exists_srcCode c
  cases src with
  | blk => exact ⟨.blk, rfl⟩
  | msg => exact ⟨.msg, rfl⟩
  | fb0 => exact ⟨.fb0, rfl⟩
  | fb1 => exact absurd rfl h

/-- The ten operations are the codes that R54 does not reserve. -/
theorem opc_cases {c : BitVec 4} (h : c ∉ ([0x0, 0xB, 0xC, 0xD, 0xE, 0xF] : List (BitVec 4))) :
    c = 0x1 ∨ c = 0x2 ∨ c = 0x3 ∨ c = 0x4 ∨ c = 0x5 ∨ c = 0x6 ∨ c = 0x7 ∨ c = 0x8 ∨ c = 0x9 ∨ c = 0xA := by
  revert c
  decide

/-! ### The legal words are the encoder's -/

/-- The fields of R49 cover the word: with `ZERO` = 0 the other three compose it. -/
theorem commandWord_fields {w : Word32} (h : w.extractLsb' 10 22 = 0) :
    commandWord (w.extractLsb' 0 4) (w.extractLsb' 4 4) (w.extractLsb' 8 2) = w := by
  have hzero : ∀ i, 10 ≤ i → i < 32 → w.getLsbD i = false := fun i h10 hi => by
    simpa [show i - 10 < 22 by omega, Nat.add_sub_cancel' h10] using congrArg (·.getLsbD (i - 10)) h
  ext i hi
  have hi0 := hzero i
  simp only [commandWord, BitVec.getElem_or, BitVec.getElem_shiftLeft, BitVec.getElem_setWidth,
    BitVec.getLsbD_extractLsb']
  grind

/-- The legality predicate, refuted clause by clause (R54). -/
theorem Fields.legal_eq_false_iff (f : Fields) : f.legal = false ↔
    f.zero ≠ 0 ∨ f.opc ∈ ([0x0, 0xB, 0xC, 0xD, 0xE, 0xF] : List (BitVec 4)) ∨
    (f.opc ∈ ([0x1, 0x2, 0x3, 0x4, 0x5, 0x7, 0x8, 0x9] : List (BitVec 4)) ∧
      f.alg ∈ ([0x0, 0x3] : List (BitVec 4))) ∨
    (f.opc ∈ ([0x3, 0x4, 0x5] : List (BitVec 4)) ∧ 8 ≤ f.alg.toNat) ∨
    (f.opc ∈ ([0x7, 0x8, 0x9] : List (BitVec 4)) ∧ f.alg.toNat < 8) ∨
    (f.opc ∈ ([0x6, 0xA] : List (BitVec 4)) ∧ f.alg ≠ 0) ∨
    (f.opc ∉ ([0x3, 0x7] : List (BitVec 4)) ∧ f.bsel ≠ 0) ∨ (f.opc = 0x7 ∧ f.bsel = 3) := by
  simp only [Fields.legal, Fields.zeroOk, Fields.opcOk, Fields.algOk, Fields.takesAlg, Fields.mdOk,
    Fields.spongeOk, Fields.noAlgOk, Fields.bselOk, Fields.absorbSrcOk, Bool.and_eq_false_iff,
    Bool.or_eq_false_iff, Bool.not_eq_false', Bool.and_eq_true, decide_eq_true_eq, decide_eq_false_iff_not,
    or_assoc, ne_eq]

theorem legal_encode (i : Instr) : (Fields.ofWord (encode i)).legal = true := by cases i <;> rfl

/-- Legal fields are those of a command's word, operation by operation (R53). -/
theorem exists_encode_of_legal {f : Fields} (h : f.legal = true) :
    f.zero = 0 ∧ ∃ i, commandWord f.opc f.alg f.bsel = encode i := by
  obtain ⟨opc, alg, bsel, zero⟩ := f
  rw [← Bool.not_eq_false, Fields.legal_eq_false_iff] at h
  obtain ⟨hzero, hopc, h⟩ := by simpa only [not_or, ne_eq, not_not] using h
  refine ⟨hzero, ?_⟩
  obtain rfl | rfl | rfl | rfl | rfl | rfl | rfl | rfl | rfl | rfl := opc_cases hopc
  · obtain ⟨halg, rfl⟩ := by simpa using h
    obtain ⟨a, rfl⟩ | ⟨a, rfl⟩ := exists_mdCode_or_spongeCode halg
    · exact ⟨_, (encode_digestMd a).symm⟩
    · exact ⟨_, (encode_digestSponge a).symm⟩
  · obtain ⟨halg, rfl⟩ := by simpa using h
    obtain ⟨a, rfl⟩ | ⟨a, rfl⟩ := exists_mdCode_or_spongeCode halg
    · exact ⟨_, (encode_initMd a).symm⟩
    · exact ⟨_, (encode_initSponge a).symm⟩
  · obtain ⟨halg, hlt⟩ := by simpa using h
    obtain ⟨a, rfl⟩ := exists_mdCode halg hlt
    obtain ⟨src, rfl⟩ := exists_srcCode bsel
    exact ⟨_, (encode_compress a src).symm⟩
  · obtain ⟨halg, hlt, rfl⟩ := by simpa using h
    obtain ⟨a, rfl⟩ := exists_mdCode halg hlt
    exact ⟨_, (encode_pad a).symm⟩
  · obtain ⟨halg, hlt, rfl⟩ := by simpa using h
    obtain ⟨a, rfl⟩ := exists_mdCode halg hlt
    exact ⟨_, (encode_serialize a).symm⟩
  · obtain ⟨rfl, rfl⟩ := by simpa using h
    exact ⟨.permute, rfl⟩
  · obtain ⟨-, hle, hbsel⟩ := by simpa using h
    obtain ⟨a, rfl⟩ := exists_spongeCode hle
    obtain ⟨src, rfl⟩ := exists_srcCode_absorbSrc hbsel
    exact ⟨_, (encode_absorb a src).symm⟩
  · obtain ⟨-, hle, rfl⟩ := by simpa using h
    obtain ⟨a, rfl⟩ := exists_spongeCode hle
    exact ⟨_, (encode_sppad a).symm⟩
  · obtain ⟨-, hle, rfl⟩ := by simpa using h
    obtain ⟨a, rfl⟩ := exists_spongeCode hle
    exact ⟨_, (encode_squeeze a).symm⟩
  · obtain ⟨rfl, rfl⟩ := by simpa using h
    exact ⟨.clear, rfl⟩

/-- The legality predicate of R54 singles out the words of the 106 commands. -/
theorem legal_ofWord_iff {w : Word32} : (Fields.ofWord w).legal = true ↔ ∃ i, w = encode i := by
  refine ⟨fun h => ?_, fun ⟨i, hi⟩ => hi ▸ legal_encode i⟩
  obtain ⟨hzero, i, hi⟩ := exists_encode_of_legal h
  exact ⟨i, (commandWord_fields hzero).symm.trans hi⟩

theorem decode_eq_error_iff_legal {w : Word32} :
    decode w = .error .errIllegal ↔ (Fields.ofWord w).legal = false := by
  rw [decode_eq_error_iff, ← Bool.not_eq_true, legal_ofWord_iff, not_exists]

/-- Settles O3: the decoder refuses what no command encodes to, which is what the legality predicate refuses; an
illegal word is a cause of rejection before any effect. -/
theorem illegalWords : Obligations.IllegalWords :=
  ⟨fun w => decode_eq_error_iff_legal.trans (Fields.legal_eq_false_iff (Fields.ofWord w)),
    fun _ s hd hs => (Machine.issue_of_illegal hd s).trans (Machine.illegalCommand_ready hs),
    decode_eq_error_iff_legal.2 rfl, decode_eq_error_iff_legal.2 rfl⟩

/-- Settles O1: a legal word is the encoder's for its command, an illegal one violates a clause of R54. -/
theorem wordsDecode : Obligations.WordsDecode := by
  have ok {w : Word32} {i : Instr} (h : w = encode i) : decode w = .ok i := decode_eq_ok_iff.2 h
  have illegal {w : Word32} (h : (Fields.ofWord w).legal = false) : decode w = .error .errIllegal :=
    decode_eq_error_iff_legal.2 h
  exact ⟨ok rfl, ok rfl, ok rfl, ok rfl, ok rfl, ok rfl, ok rfl, ok rfl, ok rfl, ok rfl,
    illegal rfl, illegal rfl, illegal rfl, illegal rfl, illegal rfl, illegal rfl, illegal rfl, illegal rfl,
    illegal rfl, illegal rfl⟩

end Sys2Proof

/-! ## PAD (R57 to R60) -/

namespace Sys2Proof.Machine

variable {s : State}

/-! ### The final blocks -/

/-- `LEN` is its full blocks and its remainder (R57). -/
theorem fullBlocks_mul_add_remainder (n : Nat) (s : State) : fullBlocks n s * n + remainder n s = s.len.toNat :=
  Nat.div_add_mod' _ _

/-- The remainders that need a second final block: the last 8 of a 64-byte block, the last 16 of a 128-byte one
(R58). -/
theorem needsSecond_iff (a : MdAlg) (s : State) :
    needsSecond a s = true ↔
      blockSize a - suffixSize a ≤ remainder (blockSize a) s ∧ remainder (blockSize a) s ≤ blockSize a - 1 := by
  have hlt := remainder_lt (blockSize_pos a) s
  have hsplit := blockSize_split a
  rw [needsSecond_true]
  omega

theorem finalBlock0_of_fits {a : MdAlg} (h : needsSecond a s = false) :
    finalBlock0 a s = tail (blockSize a) s ++ [0x80] ++
      zeros (blockSize a - 1 - suffixSize a - remainder (blockSize a) s) ++ suffix a s.len.toNat := by
  simp [finalBlock0, h]

theorem finalBlock0_of_second {a : MdAlg} (h : needsSecond a s = true) :
    finalBlock0 a s = tail (blockSize a) s ++ [0x80] ++ zeros (blockSize a - 1 - remainder (blockSize a) s) := by
  simp [finalBlock0, h]

theorem finalBlock1_of_fits {a : MdAlg} (h : needsSecond a s = false) : finalBlock1 a s = zeros (blockSize a) := by
  simp [finalBlock1, h]

theorem finalBlock1_of_second {a : MdAlg} (h : needsSecond a s = true) :
    finalBlock1 a s = zeros (blockSize a - suffixSize a) ++ suffix a s.len.toNat := by
  simp [finalBlock1, h]

/-- The delimiter and the suffix after the remainder end in the last of the `NEED2` + 1 final blocks, and would
not fit one block fewer (R57). -/
theorem final_blocks_least (a : MdAlg) (s : State) :
    (needsSecond a s).toNat * blockSize a < remainder (blockSize a) s + 1 + suffixSize a ∧
      remainder (blockSize a) s + 1 + suffixSize a ≤ ((needsSecond a s).toNat + 1) * blockSize a := by
  have hlt := remainder_lt (blockSize_pos a) s
  have hsplit := blockSize_split a
  cases h : needsSecond a s with
  | false =>
    have hfits := (needsSecond_false a s).1 h
    simp only [Bool.toNat_false, Nat.zero_mul, Nat.zero_add, Nat.one_mul]
    omega
  | true =>
    have hsecond := (needsSecond_true a s).1 h
    simp only [Bool.toNat_true, Nat.one_mul, Nat.reduceAdd]
    omega

/-- The final blocks a digest consumes are `NEED2` + 1 whole blocks (R59). -/
theorem length_finalBlocks (a : MdAlg) (s : State) :
    (finalBlock0 a s ++ if needsSecond a s then finalBlock1 a s else []).length =
      ((needsSecond a s).toNat + 1) * blockSize a := by
  cases needsSecond a s with
  | false => simp
  | true => simp [Nat.two_mul]

theorem zeros_append_zeros (m n : Nat) : zeros m ++ zeros n = zeros (m + n) :=
  List.replicate_append_replicate

/-- The number of zero bytes between the delimiter and the suffix (R59). -/
def padZeros (a : MdAlg) (s : State) : Nat :=
  ((needsSecond a s).toNat + 1) * blockSize a - (remainder (blockSize a) s + 1 + suffixSize a)

/-- The final blocks a digest consumes, one after another: the remainder, the delimiter, zeros, the suffix (R59). -/
theorem finalBlocks_eq (a : MdAlg) (s : State) :
    finalBlock0 a s ++ (if needsSecond a s then finalBlock1 a s else []) =
      tail (blockSize a) s ++ [0x80] ++ zeros (padZeros a s) ++ suffix a s.len.toNat := by
  have hlt := remainder_lt (blockSize_pos a) s
  have hsplit := blockSize_split a
  cases h : needsSecond a s with
  | false =>
    have hz : padZeros a s = blockSize a - 1 - suffixSize a - remainder (blockSize a) s := by
      simp only [padZeros, h, Bool.toNat_false]
      omega
    rw [finalBlock0_of_fits h, hz]
    simp
  | true =>
    have hz : padZeros a s = (blockSize a - 1 - remainder (blockSize a) s) + (blockSize a - suffixSize a) := by
      simp only [padZeros, h, Bool.toNat_true]
      omega
    rw [finalBlock0_of_second h, finalBlock1_of_second h, hz, ← zeros_append_zeros]
    simp

/-- No fewer zeros make the padded message whole blocks: with fewer, its final part would be a multiple of the block
size above `NEED2` blocks and below `NEED2` + 1 (R59). -/
theorem padZeros_le {a : MdAlg} {z : Nat} (h : (s.len.toNat + 1 + z + suffixSize a) % blockSize a = 0) :
    padZeros a s ≤ z := by
  obtain ⟨hmore, -⟩ := final_blocks_least a s
  have hdvd : blockSize a ∣ remainder (blockSize a) s + 1 + suffixSize a + z := by
    have hsum : s.len.toNat + 1 + z + suffixSize a =
        fullBlocks (blockSize a) s * blockSize a + (remainder (blockSize a) s + 1 + suffixSize a + z) := by
      rw [← fullBlocks_mul_add_remainder (blockSize a) s]
      omega
    rw [hsum] at h
    exact (Nat.dvd_add_right (Nat.dvd_mul_left _ _)).1 (Nat.dvd_of_mod_eq_zero h)
  obtain ⟨k, hk⟩ := exists_eq_mul_left_of_dvd hdvd
  have hlt : (needsSecond a s).toNat < k := Nat.lt_of_mul_lt_mul_right (a := blockSize a) (by omega)
  have hle : ((needsSecond a s).toNat + 1) * blockSize a ≤ k * blockSize a := Nat.mul_le_mul_right _ hlt
  unfold padZeros
  omega

/-! ### What PAD delivers -/

theorem exec_pad_ready (a : MdAlg) (h : s.ready) (hl : s.lenOk) : exec (.pad a) s = .next (complete (padOp a s)) :=
  (exec_pad a s).trans (command_accept h (lenCheck_none hl))

/-- `NFULL` holds every number of full blocks (R26). -/
theorem toNat_fullBlocks (n : Nat) (s : State) : (BitVec.ofNat 64 (fullBlocks n s)).toNat = fullBlocks n s :=
  (BitVec.toNat_ofNat _ _).trans (Nat.mod_eq_of_lt ((Nat.div_le_self _ _).trans_lt s.len.isLt))

/-- `REM` holds every remainder (R26). -/
theorem toNat_remainder (a : MdAlg) (s : State) :
    (BitVec.ofNat 8 (remainder (blockSize a) s)).toNat = remainder (blockSize a) s := by
  have hlt := remainder_lt (blockSize_pos a) s
  have hle := blockSize_le a
  rw [BitVec.toNat_ofNat]
  omega

/-- The bytes of FB0 that a digest reads after PAD (R57). -/
theorem spaceBytes_padOp_fb0 (a : MdAlg) (s : State) :
    spaceBytes (complete (padOp a s)) .fb0 (blockSize a) = finalBlock0 a s := by
  have hle := blockSize_le a
  have htake := take_fillSpace 144 (finalBlock0 a s) (by rw [length_finalBlock0]; omega)
  rw [length_finalBlock0, take_eq_map_range _ (by simp; omega)] at htake
  exact htake

/-- The bytes of FB1 that a digest reads after PAD (R57). -/
theorem spaceBytes_padOp_fb1 (a : MdAlg) (s : State) :
    spaceBytes (complete (padOp a s)) .fb1 (blockSize a) = finalBlock1 a s := by
  have hle := blockSize_le a
  have htake := take_fillSpace 128 (finalBlock1 a s) (by rwa [length_finalBlock1])
  rw [length_finalBlock1, take_eq_map_range _ (by simpa using hle)] at htake
  exact htake

theorem spaceBytes_msg (s : State) (n : Nat) : spaceBytes s .msg n = msgRead s 0 n := by
  simp [spaceBytes, msgRead, byteAt]

/-- The full blocks and the remainder are the message (R57, R59). -/
theorem fullBlocks_append_tail (n : Nat) (s : State) :
    spaceBytes s .msg (fullBlocks n s * n) ++ tail n s = spaceBytes s .msg s.len.toNat := by
  have happend := msgRead_append s 0 (fullBlocks n s * n) (remainder n s)
  rw [Nat.zero_add, fullBlocks_mul_add_remainder] at happend
  rw [spaceBytes_msg, spaceBytes_msg, ← happend, tail]

/-- Settles O28: the bytes a digest reads after PAD are the full blocks of MSG, which PAD leaves as they were, and
the final blocks; the remainder with the full blocks is the message, and the zeros are the least that fill the last
block. -/
theorem paddedMessage : Obligations.PaddedMessage := by
  intro a s h hl
  refine ⟨complete (padOp a s), exec_pad_ready a h hl, rfl, ?_⟩
  intro n bs sfx consumed
  have hcap : n ≤ s.msgCap.val := hl
  have hbits : 8 * n < 2 ^ 64 := by
    have := s.msgCap.isLt
    omega
  have hnfull : (complete (padOp a s)).nfull.toNat = fullBlocks bs s := toNat_fullBlocks bs s
  have hmsg : ∀ m, spaceBytes (complete (padOp a s)) .msg m = spaceBytes s .msg m := fun _ => rfl
  have hneed : (complete (padOp a s)).need2 = needsSecond a s := rfl
  have hconsumed : consumed = spaceBytes s .msg (fullBlocks bs s * bs) ++
      (finalBlock0 a s ++ if needsSecond a s then finalBlock1 a s else []) := by
    simp only [consumed, bs]
    rw [hnfull, hmsg, hneed, spaceBytes_padOp_fb0, spaceBytes_padOp_fb1, List.append_assoc]
  refine ⟨hbits, padZeros a s, ?_, ?_, fun z' => padZeros_le⟩
  · calc consumed
        = spaceBytes s .msg (fullBlocks bs s * bs) ++
            (tail bs s ++ [0x80] ++ zeros (padZeros a s) ++ suffix a n) := by rw [hconsumed, finalBlocks_eq]
      _ = spaceBytes s .msg n ++ [0x80] ++ zeros (padZeros a s) ++ suffix a n := by
          rw [← fullBlocks_append_tail bs s]
          simp only [List.append_assoc]
      _ = spaceBytes s .msg n ++ [0x80] ++ zeros (padZeros a s) ++ sfx := by rw [suffix_eq]
  · rw [hconsumed, List.length_append, length_finalBlocks, spaceBytes_msg, length_msgRead, hnfull, hneed]
    ring

/-- Settles O26: the check passes, and the whole-space writes hold the two final blocks and zeros after them. -/
theorem padDelivers : Obligations.PadDelivers := by
  intro a s h hl n bs sl rem tl sfx
  have hle := blockSize_le a
  have hsfx : suffix a n = sfx := suffix_eq a n
  refine ⟨fillSpace 144 (finalBlock0 a s), fillSpace 128 (finalBlock1 a s), exec_pad_ready a h hl, ?_, ?_,
    toNat_fullBlocks bs s, toNat_remainder a s⟩
  · rw [toList_fillSpace _ _ (by rw [length_finalBlock0]; omega), length_finalBlock0]
    congr 1
    split
    next hr => exact (finalBlock0_of_fits ((needsSecond_false a s).2 hr)).trans (by rw [hsfx]; rfl)
    next hr => exact finalBlock0_of_second ((needsSecond_true a s).2 (Nat.lt_of_not_le hr))
  · rw [toList_fillSpace _ _ (by rwa [length_finalBlock1]), length_finalBlock1]
    congr 1
    split
    next hr => exact finalBlock1_of_fits ((needsSecond_false a s).2 hr)
    next hr => exact (finalBlock1_of_second ((needsSecond_true a s).2 (Nat.lt_of_not_le hr))).trans (by rw [hsfx])

/-- Settles O27: `REM` and `NEED2` are the remainder and `needs_second_block`, whose bounds the sizes of R51 turn
into the numbers of R58. -/
theorem padThreshold : Obligations.PadThreshold := by
  intro a s t h hl ht
  rw [exec_pad_ready a h hl] at ht
  obtain rfl : complete (padOp a s) = t := Host.Outcome.next.inj ht
  have hrem : (complete (padOp a s)).rem.toNat = remainder (blockSize a) s := toNat_remainder a s
  have hneed : (complete (padOp a s)).need2 = needsSecond a s := rfl
  rw [hrem, hneed, needsSecond_iff]
  refine ⟨fun ha => ?_, fun ha => ?_⟩
  · obtain rfl | rfl | rfl | rfl : a = .md5 ∨ a = .sha1 ∨ a = .sha224 ∨ a = .sha256 := by simpa using ha
    all_goals exact ⟨rfl, Iff.rfl⟩
  · obtain rfl | rfl : a = .sha384 ∨ a = .sha512 := by simpa using ha
    all_goals exact ⟨rfl, Iff.rfl⟩

end Sys2Proof.Machine

/-! ## INIT of the Merkle–Damgård variants (R75) -/

namespace Sys2Proof.Machine

variable {s : State}

theorem exec_initMd_ready (a : MdAlg) (h : s.ready) : exec (.initMd a) s = .next (complete (initFile a s)) := by
  rw [exec_initMd, initMd, command_accept h rfl]

/-- Settles O18: no check stands before INIT, and each variant is one case of `initFile`. -/
theorem initLoadsIv : Obligations.InitLoadsIv := fun _ h =>
  ⟨exec_initMd_ready .md5 h, exec_initMd_ready .sha1 h, exec_initMd_ready .sha224 h, exec_initMd_ready .sha256 h,
    exec_initMd_ready .sha384 h, exec_initMd_ready .sha512 h⟩

end Sys2Proof.Machine

/-! ## The MD5 compression (R69 to R73) -/

namespace Sys2Proof.Machine

/-- The function of step i, its rounds bounded by their last steps (R72, R73). -/
theorem md5Fn_eq (i : Nat) (b c d : Word32) : md5Fn i b c d =
    if i ≤ 15 then (b &&& c) ||| (~~~b &&& d)
    else if i ≤ 31 then (b &&& d) ||| (c &&& ~~~d)
    else if i ≤ 47 then b ^^^ c ^^^ d
    else c ^^^ (b ||| ~~~d) := by
  simp only [md5Fn, Nat.lt_succ_iff]
  rfl

/-- The message-word index of step i, its rounds bounded by their last steps (R71). -/
theorem md5G_eq (i : Nat) : md5G i =
    if i ≤ 15 then i else if i ≤ 31 then (5 * i + 1) % 16 else if i ≤ 47 then (3 * i + 5) % 16
    else 7 * i % 16 := by
  simp only [md5G, Nat.lt_succ_iff]

/-- The four rotate amounts of the round of step i (R70). -/
def md5RoundShifts (i : Nat) : List Nat :=
  if i ≤ 15 then [7, 12, 17, 22] else if i ≤ 31 then [5, 9, 14, 20]
  else if i ≤ 47 then [4, 11, 16, 23] else [6, 10, 15, 21]

theorem md5S_eq (i : Nat) : md5S i = (md5RoundShifts i).getD (i % 4) 0 := by
  simp only [md5S, md5RoundShifts, Nat.lt_succ_iff]
  split_ifs <;> rfl

/-- Every step's index names a word of the block (R71). -/
theorem md5G_lt (i : Nat) : md5G i < 16 := by
  unfold md5G
  split_ifs <;> omega

/-- Every rotate amount is below the word width (R70). -/
theorem md5S_lt (i : Nat) : md5S i < 32 := by
  have hshifts : ∀ l ∈ [[7, 12, 17, 22], [5, 9, 14, 20], [4, 11, 16, 23], [6, 10, 15, 21]],
      ∀ k < 4, l.getD k 0 < 32 := by decide
  rw [md5S_eq]
  refine hshifts _ ?_ _ (Nat.mod_lt _ (by decide))
  unfold md5RoundShifts
  split_ifs <;> simp

/-- One more step (R73). -/
theorem md5Rounds_succ (H : Vector Word32 4) (B : List Byte) (n : Nat) :
    md5Rounds H B (n + 1) = md5Step (wordsLe32 B) (md5Rounds H B n) n :=
  fold_range_succ _ _ n

/-- A step on a 64-byte block: the rotate is the word's own, and the message word is four bytes of the block,
little-endian (R10, R33, R73). -/
theorem md5Step_wordsLe32 {B : List Byte} (hB : B.length = 64) (v : Md5Vars) (i : Nat) :
    md5Step (wordsLe32 B) v i =
      ⟨v.d, v.b + (v.a + md5Fn i v.b v.c v.d + md5K.getD i 0 + (B.getD (4 * md5G i + 3) 0 ++
        B.getD (4 * md5G i + 2) 0 ++ B.getD (4 * md5G i + 1) 0 ++ B.getD (4 * md5G i) 0)).rotateLeft (md5S i),
        v.b, v.c⟩ := by
  simp only [md5Step, rotl_eq _ _ (md5S_lt i), getD_wordsLe32 B hB _ (md5G_lt i)]

/-- Settles O22: each step is one more of the fold, and the tables agree with the rules' round by round; the start and
the feed-forward are the definition's. -/
theorem md5CompressSteps : Obligations.Md5CompressSteps := by
  intro H B hB K S
  refine ⟨rfl, fun i _ => ?_, rfl⟩
  rw [md5Rounds_succ, md5Step_wordsLe32 hB, md5Fn_eq, md5G_eq, md5S_eq]
  rfl

end Sys2Proof.Machine

/-! ## The SHA-1 compression (R80 to R82) -/

namespace Sys2Proof.Machine

/-- The schedule's first 16 words are the block's, and each later one is the rule's over the finished schedule, for
the rule looks back only (R82). -/
theorem getD_sha1Schedule (B : List Byte) :
    (∀ t < 16, (sha1Schedule B).getD t 0 = (wordsBe32 B).getD t 0) ∧
      ∀ t, 16 ≤ t → t < 80 → (sha1Schedule B).getD t 0 = sha1NextWord (sha1Schedule B) t := by
  have hlen : (wordsBe32 B).length = 16 := length_wordsBe32 B
  obtain ⟨-, hfirst, hlater⟩ := schedule_spec sha1NextWord 0 (wordsBe32 B) 64
    fun w x t ht h => sha1NextWord_append w x t ht (hlen ▸ h)
  rw [hlen] at hfirst hlater
  exact ⟨hfirst, hlater⟩

/-- One more step (R82). -/
theorem sha1Rounds_succ (H : Vector Word32 5) (B : List Byte) (n : Nat) :
    sha1Rounds H B (n + 1) = sha1Step (sha1Schedule B) (sha1Rounds H B n) n :=
  fold_range_succ _ _ n

/-- A step's new variables, its rotates the word's own (R10, R82). -/
theorem sha1Step_eq (w : List Word32) (v : Sha1Vars) (t : Nat) :
    sha1Step w v t = ⟨v.a.rotateLeft 5 + sha1Fn t v.b v.c v.d + v.e + sha1K t + w.getD t 0,
      v.a, v.b.rotateLeft 30, v.c, v.d⟩ := by
  simp only [sha1Step, rotl_eq _ 5 (by decide : 5 < 32), rotl_eq _ 30 (by decide : 30 < 32)]

/-- Settles O23: the schedule's words are the block's and then the rule's, and each step is one more of the fold, with
the function and the constant of its band; the start and the feed-forward are the definition's. -/
theorem sha1CompressSteps : Obligations.Sha1CompressSteps := by
  intro H B hB w
  obtain ⟨hfirst, hlater⟩ := getD_sha1Schedule B
  refine ⟨fun t ht => ?_, fun t hlow hhigh => ?_, rfl, fun t _ => ?_, rfl⟩
  · exact (hfirst t ht).trans (getD_wordsBe32 B hB t ht)
  · exact (hlater t hlow hhigh).trans (rotl_eq _ 1 (by decide))
  · rw [sha1Rounds_succ, sha1Step_eq]
    rfl

end Sys2Proof.Machine

/-! ## The SHA-2 schedule and rounds, of either unit (R91, R103) -/

namespace Sys2Proof.Machine

variable {w : Nat}

/-- The schedule's first 16 words are the block's, and each later one is the rule's over the finished schedule, for
the rule looks back only (R91, R103). -/
theorem getD_sha2Schedule (U : Sha2Unit w) (hU : 16 ≤ U.rounds) {W16 : List (BitVec w)} (hlen : W16.length = 16) :
    (∀ t < 16, (sha2Schedule U W16).getD t 0 = W16.getD t 0) ∧
      ∀ t, 16 ≤ t → t < U.rounds → (sha2Schedule U W16).getD t 0 = sha2NextWord U (sha2Schedule U W16) t := by
  obtain ⟨-, hfirst, hlater⟩ := schedule_spec (sha2NextWord U) 0 W16 (U.rounds - 16)
    fun W x t ht h => sha2NextWord_append U W x t ht (hlen ▸ h)
  rw [hlen] at hfirst hlater
  rw [Nat.add_sub_cancel' hU] at hlater
  exact ⟨hfirst, hlater⟩

/-- One more round (R91, R103). -/
theorem sha2Rounds_succ (U : Sha2Unit w) (H : Vector (BitVec w) 8) (W16 : List (BitVec w)) (n : Nat) :
    sha2Rounds U H W16 (n + 1) = sha2Round U (sha2Schedule U W16) (sha2Rounds U H W16 n) n :=
  fold_range_succ _ _ n

end Sys2Proof.Machine

/-! ## The 32-bit SHA-2 compression (R89 to R91) -/

namespace Sys2Proof.Machine

/-! ### The sigma functions, their rotates the word's own (R10, R90) -/

theorem s32Bsig0_eq (a : Word32) : s32Bsig0 a = a.rotateRight 2 ^^^ a.rotateRight 13 ^^^ a.rotateRight 22 := by
  simp only [s32Bsig0, rotr_eq, Nat.reduceLT]

theorem s32Bsig1_eq (e : Word32) : s32Bsig1 e = e.rotateRight 6 ^^^ e.rotateRight 11 ^^^ e.rotateRight 25 := by
  simp only [s32Bsig1, rotr_eq, Nat.reduceLT]

theorem s32Ssig0_eq (x : Word32) : s32Ssig0 x = x.rotateRight 7 ^^^ x.rotateRight 18 ^^^ x >>> 3 := by
  simp only [s32Ssig0, rotr_eq, Nat.reduceLT, shr]

theorem s32Ssig1_eq (x : Word32) : s32Ssig1 x = x.rotateRight 17 ^^^ x.rotateRight 19 ^^^ x >>> 10 := by
  simp only [s32Ssig1, rotr_eq, Nat.reduceLT, shr]

/-! ### The schedule rule and the round with them (R91) -/

theorem sha2NextWord_unitS32 (W : List Word32) (t : Nat) :
    sha2NextWord unitS32 W t =
      s32Ssig1 (W.getD (t - 2) 0) + W.getD (t - 7) 0 + s32Ssig0 (W.getD (t - 15) 0) + W.getD (t - 16) 0 := rfl

theorem sha2Round_unitS32 (W : List Word32) (v : Sha2Vars 32) (t : Nat) :
    sha2Round unitS32 W v t =
      let T1 := v.h + s32Bsig1 v.e + sha2Ch v.e v.f v.g + k256.getD t 0 + W.getD t 0
      ⟨T1 + (s32Bsig0 v.a + sha2Maj v.a v.b v.c), v.a, v.b, v.c, v.d + T1, v.e, v.f, v.g⟩ := rfl

/-- Settles O24: the schedule's words are the block's and then the rule's, and each round is one more of the fold, with
the sigma functions' rotates the word's own; the constants, the start and the feed-forward are the definition's. -/
theorem sha2SmallCompressSteps : Obligations.Sha2SmallCompressSteps := by
  intro H B hB K W V
  obtain ⟨hfirst, hlater⟩ := getD_sha2Schedule unitS32 (by decide) (length_wordsBe32 B)
  refine ⟨fun t ht => ?_, fun t hlow hhigh => ?_, rfl, fun t _ => ?_, rfl⟩
  · exact (hfirst t ht).trans (getD_wordsBe32 B hB t ht)
  · exact (hlater t hlow hhigh).trans (by rw [sha2NextWord_unitS32, s32Ssig1_eq, s32Ssig0_eq])
  · calc V (t + 1)
        = sha2Round unitS32 (sha2Schedule unitS32 (wordsBe32 B)) (V t) t := sha2Rounds_succ ..
      _ = _ := by
          rw [sha2Round_unitS32, s32Bsig1_eq, s32Bsig0_eq]
          rfl

end Sys2Proof.Machine

/-! ## The truncated serializations (R97, R109) -/

namespace Sys2Proof.Machine

variable {s : State}

/-- The first bytes of DOUT after a delivery are the digest delivered (R27, R35). -/
theorem spaceBytes_putDigest {d : List Byte} {n : Nat} (hd : d.length = n) (hn : n ≤ 64) (s : State) :
    spaceBytes (putDigest d n s) .dout n = d := by
  subst hd
  have htake := take_fillSpace 64 d hn
  rwa [take_eq_map_range _ (by simpa using hn)] at htake

/-- Every engine file holds at least `OUTLEN` bytes (R17, R51). -/
theorem mdOutLen_le_length_fileBytes (a : MdAlg) (s : State) : mdOutLen a ≤ (fileBytes a s).length := by
  cases a <;> simp [mdOutLen, fileBytes, md5Bytes, sha1Bytes, s32Bytes, s64Bytes, List.length_flatMap]

theorem length_serialization (a : MdAlg) (s : State) : (serialization a s).length = mdOutLen a :=
  List.length_take_of_le (mdOutLen_le_length_fileBytes a s)

/-- SERIALIZE leaves the serialization of the engine file in the first `OUTLEN` bytes of DOUT (R35). -/
theorem exec_serialize_spaceBytes (a : MdAlg) (h : s.ready) :
    ∃ t, exec (.serialize a) s = .next t ∧ spaceBytes t .dout (mdOutLen a) = serialization a s :=
  ⟨_, exec_serialize_ready a h, spaceBytes_putDigest (length_serialization a s) (mdOutLen_le a) s⟩

/-- A serialization of the same engine file with a smaller `OUTLEN` is the first bytes of the longer one (R35). -/
theorem serialization_eq_take {a b : MdAlg} (hfile : fileBytes a s = fileBytes b s)
    (hlen : mdOutLen a ≤ mdOutLen b) : serialization a s = (serialization b s).take (mdOutLen a) := by
  rw [serialization, serialization, hfile, List.take_take, Nat.min_eq_left hlen]

/-- Settles O43: SHA-224 serializes the engine file of SHA-256, and SHA-384 that of SHA-512, only to a smaller
`OUTLEN`. -/
theorem truncationIsFirstBytes : Obligations.TruncationIsFirstBytes := by
  intro s h
  obtain ⟨t28, hexec28, h28⟩ := exec_serialize_spaceBytes .sha224 h
  obtain ⟨t32, hexec32, h32⟩ := exec_serialize_spaceBytes .sha256 h
  obtain ⟨t48, hexec48, h48⟩ := exec_serialize_spaceBytes .sha384 h
  obtain ⟨t64, hexec64, h64⟩ := exec_serialize_spaceBytes .sha512 h
  refine ⟨t28, t32, t48, t64, hexec28, hexec32, hexec48, hexec64, ?_, ?_⟩
  · calc spaceBytes t28 .dout 28
        = (serialization .sha256 s).take 28 := h28.trans (serialization_eq_take rfl (by decide))
      _ = (spaceBytes t32 .dout 32).take 28 := congrArg (List.take 28) h32.symm
  · calc spaceBytes t48 .dout 48
        = (serialization .sha512 s).take 48 := h48.trans (serialization_eq_take rfl (by decide))
      _ = (spaceBytes t64 .dout 64).take 48 := congrArg (List.take 48) h64.symm

end Sys2Proof.Machine

/-! ## The 64-bit SHA-2 compression (R101 to R103) -/

namespace Sys2Proof.Machine

/-! ### The sigma functions of U4, their rotates the word's own (R10, R102) -/

theorem unitS64_bsig0 (a : Word64) :
    unitS64.bsig0 a = a.rotateRight 28 ^^^ a.rotateRight 34 ^^^ a.rotateRight 39 := by
  simp only [unitS64, s64Bsig0, rotr_eq, Nat.reduceLT]

theorem unitS64_bsig1 (e : Word64) :
    unitS64.bsig1 e = e.rotateRight 14 ^^^ e.rotateRight 18 ^^^ e.rotateRight 41 := by
  simp only [unitS64, s64Bsig1, rotr_eq, Nat.reduceLT]

theorem unitS64_ssig0 (x : Word64) : unitS64.ssig0 x = x.rotateRight 1 ^^^ x.rotateRight 8 ^^^ x >>> 7 := by
  simp only [unitS64, s64Ssig0, rotr_eq, Nat.reduceLT, shr]

theorem unitS64_ssig1 (x : Word64) : unitS64.ssig1 x = x.rotateRight 19 ^^^ x.rotateRight 61 ^^^ x >>> 6 := by
  simp only [unitS64, s64Ssig1, rotr_eq, Nat.reduceLT, shr]

/-- Settles O25: the schedule's words are the block's and then the rule's, and each round is one more of the fold, with
the sigma functions' rotates the word's own; the constants, the start and the feed-forward are the definition's. -/
theorem sha2LargeCompressSteps : Obligations.Sha2LargeCompressSteps := by
  intro H B hB K W V
  obtain ⟨hfirst, hlater⟩ := getD_sha2Schedule unitS64 (by decide) (length_wordsBe64 B)
  refine ⟨fun t ht => ?_, fun t hlow hhigh => ?_, rfl, fun t _ => ?_, rfl⟩
  · exact (hfirst t ht).trans (getD_wordsBe64 B hB t ht)
  · exact (hlater t hlow hhigh).trans (by rw [sha2NextWord, unitS64_ssig1, unitS64_ssig0])
  · calc V (t + 1)
        = sha2Round unitS64 (sha2Schedule unitS64 (wordsBe64 B)) (V t) t := sha2Rounds_succ ..
      _ = _ := by
          rw [sha2Round, unitS64_bsig1, unitS64_bsig0]
          rfl

end Sys2Proof.Machine

/-! ## PERMUTE, and the permutation round by round (R112 to R118) -/

namespace Sys2Proof.Machine

theorem exec_permute_ready {s : State} (h : s.ready) :
    exec .permute s = .next (complete { s with kec := keccakF s.kec }) := by
  rw [exec_permute, permuteCmd, command_accept h rfl]

/-- Settles O31: no check stands before PERMUTE, and its operation stores the lanes only. -/
theorem permuteCompletes : Obligations.PermuteCompletes := fun _ h => exec_permute_ready h

/-! ### θ and χ, lane by lane (R115) -/

theorem getD_keccakC (A : Lanes) {x : Nat} (hx : x < 5) :
    (keccakC A).getD x 0 =
      lane A x ^^^ lane A (x + 5) ^^^ lane A (x + 10) ^^^ lane A (x + 15) ^^^ lane A (x + 20) :=
  lane_map _ 5 x hx

/-- The rotate of a column's parity is the word's own (R10, R115). -/
theorem getD_keccakD (C : List Word64) {x : Nat} (hx : x < 5) :
    (keccakD C).getD x 0 = C.getD ((x + 4) % 5) 0 ^^^ (C.getD ((x + 1) % 5) 0).rotateLeft 1 := by
  rw [← rotl_eq _ 1 (by decide)]
  exact lane_map _ 5 x hx

theorem lane_keccakTheta (A : Lanes) {i : Nat} (hi : i < 25) :
    lane (keccakTheta A) i = lane A i ^^^ (keccakD (keccakC A)).getD (i % 5) 0 := by
  rw [keccakTheta, lane_map _ 25 i hi]

theorem lane_keccakChi (B : Lanes) {x y : Nat} (hx : x < 5) (hy : y < 5) :
    lane (keccakChi B) (x + 5 * y) =
      lane B (x + 5 * y) ^^^ (~~~ lane B ((x + 1) % 5 + 5 * y) &&& lane B ((x + 2) % 5 + 5 * y)) := by
  have hcol : (x + 5 * y) % 5 = x := by omega
  have hrow : (x + 5 * y) / 5 = y := by omega
  rw [keccakChi, lane_map _ 25 _ (by omega)]
  simp only [hcol, hrow]

/-! ### ρ and π: the wiring is a permutation (R113) -/

/-- Storing lanes one after another keeps the length of a set. -/
theorem length_foldl_set (p : Nat → Nat) (v : Nat → Word64) (B : Lanes) (n : Nat) :
    ((List.range n).foldl (fun B i => B.set (p i) (v i)) B).length = B.length := by
  induction n with
  | zero => rfl
  | succ n ih => rw [fold_range_succ, List.length_set, ih]

/-- Lanes stored one after another at distinct places of a set all stand there at the end. -/
theorem lane_foldl_set (p : Nat → Nat) (v : Nat → Word64) (B : Lanes) (n : Nat)
    (hlt : ∀ i < n, p i < B.length) (hinj : ∀ i < n, ∀ j < n, p i = p j → i = j) :
    ∀ i < n, lane ((List.range n).foldl (fun B i => B.set (p i) (v i)) B) (p i) = v i := by
  induction n with
  | zero => exact fun i hi => absurd hi i.not_lt_zero
  | succ n ih =>
    intro i hi
    rw [fold_range_succ]
    by_cases hin : i = n
    · subst hin
      exact lane_set_eq _ _ _ ((hlt i hi).trans_eq (length_foldl_set p v B i).symm)
    · have hne : p n ≠ p i := fun hp => hin (hinj n n.lt_succ_self i hi hp).symm
      rw [lane_set_ne _ _ _ _ hne]
      exact ih (fun i hi => hlt i (by omega)) (fun i hi j hj => hinj i (by omega) j (by omega)) i (by omega)

/-- Lane i goes to place p[i], rotated left by r[i] (R113, R115). -/
theorem lane_keccakRhoPi (T : Lanes) {i : Nat} (hi : i < 25) :
    lane (keccakRhoPi T) (keccakP.getD i 0) = (lane T i).rotateLeft (keccakR.getD i 0) := by
  rw [← rotl_eq _ _ (keccakR_lt ⟨i, hi⟩)]
  exact lane_foldl_set (fun i => keccakP.getD i 0) (fun i => rotl (lane T i) (keccakR.getD i 0)) _ 25
    (fun i hi => (keccakP_lt ⟨i, hi⟩).trans_eq List.length_replicate.symm)
    (fun i hi j hj h => congrArg Fin.val (keccakP_inj ⟨i, hi⟩ ⟨j, hj⟩ h)) i hi

/-- The wiring takes lane (x, y) to lane (y, 2x + 3y mod 5) (R113). -/
theorem keccakP_eq : ∀ x < 5, ∀ y < 5, keccakP.getD (x + 5 * y) 0 = y + 5 * ((2 * x + 3 * y) % 5) := by
  decide

/-- Every place of the 25 is where some lane goes: the wiring is injective on a finite set (R113). -/
theorem keccakP_surj {j : Nat} (hj : j < 25) : ∃ i < 25, keccakP.getD i 0 = j := by
  have hinj : Function.Injective fun i : Fin 25 => (⟨keccakP.getD i 0, keccakP_lt i⟩ : Fin 25) :=
    fun i k h => keccakP_inj i k (congrArg Fin.val h)
  obtain ⟨i, hi⟩ := Finite.surjective_of_injective hinj ⟨j, hj⟩
  exact ⟨i, i.isLt, congrArg Fin.val hi⟩

/-- Settles O32: θ and χ are maps over the lanes, and ρ and π store them at distinct places; ι is the definition's. -/
theorem keccakRoundSteps : Obligations.KeccakRoundSteps := by
  intro A rc _ C p r T B E
  refine ⟨fun i hi => ?_, fun x hx y hy => ?_, fun x hx y hy => lane_keccakChi B hx hy, rfl,
    keccakRound_length A rc, keccakP_eq, rfl, fun j => keccakP_surj⟩
  · have hcol (k : Nat) : (keccakC A).getD (k % 5) 0 = C (k % 5) := getD_keccakC A (Nat.mod_lt k (by decide))
    rw [lane_keccakTheta A hi, getD_keccakD _ (Nat.mod_lt i (by decide)), hcol, hcol]
  · show lane B (y + 5 * ((2 * x + 3 * y) % 5)) = _
    rw [← keccakP_eq x hx y hy]
    exact lane_keccakRhoPi T (by omega)

/-! ### The 24 rounds (R114, R116, R117) -/

/-- The permutation's lanes are those after the last round, which leaves 25 (R116). -/
theorem toList_keccakF (A : Vector Word64 25) : (keccakF A).toList = keccakRounds 24 A.toList := by
  have hlen : (keccakRounds 24 A.toList).length = 25 := by
    rw [keccakRounds_succ 23 _ (by decide), keccakRound_length]
  refine List.ext_getElem (by simp [hlen]) fun i hi hi' => ?_
  simp [keccakF, lane, hi']

/-- The first round from the zero lanes, evaluated (R117). -/
theorem keccakRounds_one_zero : keccakRounds 1 (List.replicate 25 0) = 1 :: List.replicate 24 0 := by
  decide

/-- Settles O33: each round is one more of the fold over the constants, which are the rules' own. -/
theorem keccakFRounds : Obligations.KeccakFRounds :=
  ⟨toList_keccakF, fun _ => rfl, keccakRounds_succ, keccakRounds_one_zero⟩

end Sys2Proof.Machine

/-! ## The sponge controller: INIT, SPPAD, SQUEEZE and DIGEST (R120 to R130, R165) -/

namespace Sys2Proof.Machine

variable {s : State}

/-! ### INIT and SQUEEZE (R120, R125) -/

theorem exec_initSponge_ready (a : SpongeAlg) (h : s.ready) :
    exec (.initSponge a) s = .next (complete { s with kec := keccakZero }) :=
  (exec_initSponge a s).trans (command_accept h rfl)

/-- Settles O19: no check stands before INIT, and every variant loads the same zero lanes. -/
theorem initSpongeZero : Obligations.InitSpongeZero := fun a _ h =>
  ⟨keccakZero, exec_initSponge_ready a h, fun k => Vector.getElem_replicate k.isLt⟩

theorem exec_squeeze_ready (a : SpongeAlg) (h : s.ready) :
    exec (.squeeze a) s = .next (complete (putDigest (squeeze s.kec (spongeOutLen a)) (spongeOutLen a) s)) :=
  (exec_squeeze a s).trans (command_accept h rfl)

/-- Settles O30: the bytes stored are those of the lanes cut at `OUTLEN`, eight to a lane. -/
theorem squeezeDelivers : Obligations.SqueezeDelivers := by
  intro a out hmem s h
  obtain ⟨b, -, hb⟩ := List.mem_map.1 (show (a, out) ∈ [SpongeAlg.sha3_224, .sha3_256, .sha3_384, .sha3_512,
    .keccak224, .keccak256, .keccak384, .keccak512].map fun a => (a, spongeOutLen a) from hmem)
  obtain ⟨rfl, rfl⟩ := Prod.mk.inj hb
  refine ⟨fillSpace 64 (squeeze s.kec (spongeOutLen b)), exec_squeeze_ready b h, fun k => ?_⟩
  rw [getElem_fillSpace, squeeze, getD_take]
  split
  next => exact getD_flatMap_toLe s.kec (by decide) (by omega)
  next => rfl

/-! ### The final block (R122, R123) -/

/-- XORing at a byte whose place is the number of bytes before it. -/
theorem xorByte_append_cons (l m : List Byte) (b v : Byte) :
    xorByte (l ++ b :: m) l.length v = l ++ (b ^^^ v) :: m := by
  simp [xorByte]

/-- XORing at a zero byte stores the value. -/
theorem xorByte_append_zero (l m : List Byte) (v : Byte) : xorByte (l ++ 0 :: m) l.length v = l ++ v :: m := by
  simpa using xorByte_append_cons l m 0 v

/-- With one byte unused, `DOMAIN` and the terminal bit meet in it (R123). -/
theorem spongeFinalBlock_combined {a : SpongeAlg} (h : remainder (rate a) s = rate a - 1) :
    spongeFinalBlock a s = tail (rate a) s ++ [domainByte a ^^^ 0x80] := by
  have hpos := rate_pos a
  have hlen := length_tail (rate a) s
  have hone : zeros (rate a - remainder (rate a) s) = [0] := by
    rw [show rate a - remainder (rate a) s = 1 by omega]
    rfl
  calc spongeFinalBlock a s
      = xorByte (xorByte (tail (rate a) s ++ [0]) (tail (rate a) s).length (domainByte a))
          (tail (rate a) s).length 0x80 := by rw [spongeFinalBlock, hone, hlen, h]
    _ = tail (rate a) s ++ [domainByte a ^^^ 0x80] := by
        rw [xorByte_append_zero, xorByte_append_cons]

/-- With more bytes unused, `DOMAIN` is the first of them and the terminal bit's byte the last (R123). -/
theorem spongeFinalBlock_separate {a : SpongeAlg} (h : remainder (rate a) s ≤ rate a - 2) :
    spongeFinalBlock a s =
      tail (rate a) s ++ [domainByte a] ++ zeros (rate a - 2 - remainder (rate a) s) ++ [0x80] := by
  have hle := le_rate a
  have hlen := length_tail (rate a) s
  generalize hz : rate a - 2 - remainder (rate a) s = z
  have hzeros : zeros (rate a - remainder (rate a) s) = 0 :: (zeros z ++ [0]) := by
    rw [show rate a - remainder (rate a) s = 1 + (z + 1) by omega, zeros_add, zeros_add]
    rfl
  have hlast : rate a - 1 = (tail (rate a) s ++ [domainByte a] ++ zeros z).length := by
    simp only [List.length_append, List.length_singleton, length_zeros]
    omega
  calc spongeFinalBlock a s
      = xorByte (xorByte (tail (rate a) s ++ 0 :: (zeros z ++ [0])) (tail (rate a) s).length (domainByte a))
          (rate a - 1) 0x80 := by rw [spongeFinalBlock, hzeros, hlen]
    _ = xorByte (tail (rate a) s ++ [domainByte a] ++ zeros z ++ 0 :: []) (rate a - 1) 0x80 := by
        rw [xorByte_append_zero]
        simp only [List.append_assoc, List.cons_append, List.nil_append]
    _ = tail (rate a) s ++ [domainByte a] ++ zeros z ++ [0x80] := by
        rw [hlast, xorByte_append_zero]

/-! ### SPPAD (R122, R129) -/

theorem exec_sppad_ready (a : SpongeAlg) (h : s.ready) (hl : s.lenOk) :
    exec (.sppad a) s = .next (complete (sppadOp a s)) :=
  (exec_sppad a s).trans (command_accept h (lenCheck_none hl))

/-- `DOMAIN` by kind of variant (R51). -/
theorem domainByte_eq (a : SpongeAlg) :
    domainByte a = if a ∈ [SpongeAlg.sha3_224, .sha3_256, .sha3_384, .sha3_512] then 0x06 else 0x01 := by
  cases a <;> rfl

/-- `REM` holds every remainder of a sponge block (R26, R122). -/
theorem toNat_remainder_rate (a : SpongeAlg) (s : State) :
    (BitVec.ofNat 8 (remainder (rate a) s)).toNat = remainder (rate a) s := by
  have hlt := remainder_lt (rate_pos a) s
  have hle := rate_le a
  rw [BitVec.toNat_ofNat]
  omega

/-- Settles O36: the check passes, and the whole-space writes hold the final block, zeros after it, and nothing in
FB1. -/
theorem sppadDelivers : Obligations.SppadDelivers := by
  intro a s h hl n r rem dom tl
  have hle := rate_le a
  have hlt : rem < r := remainder_lt (rate_pos a) s
  have hdom : domainByte a = dom := domainByte_eq a
  refine ⟨fillSpace 144 (spongeFinalBlock a s), fillSpace 128 [], exec_sppad_ready a h hl, ?_,
    toList_fillSpace 128 [] (Nat.zero_le _), toNat_fullBlocks r s, toNat_remainder_rate a s⟩
  rw [toList_fillSpace _ _ (by rwa [length_spongeFinalBlock]), length_spongeFinalBlock, ← hdom]
  congr 1
  split
  next hr => exact spongeFinalBlock_combined hr
  next hr => exact spongeFinalBlock_separate (show rem ≤ r - 2 by omega)

/-- A byte of FB0 after SPPAD is that of the final block (R129). -/
theorem byteAt_sppadOp_fb0 (a : SpongeAlg) (s : State) (k : Nat) :
    byteAt (complete (sppadOp a s)) .fb0 k = (spongeFinalBlock a s).getD k 0 :=
  getD_fillSpace 144 _ ((length_spongeFinalBlock a s).trans_le (rate_le a)) k

/-- The byte of a sequence whose place is the number of bytes before it. -/
theorem getD_append_cons (l m : List Byte) (b : Byte) {k : Nat} (h : k = l.length) : (l ++ b :: m).getD k 0 = b := by
  simp [h]

/-- Settles O37: the two forms of the final block, read at the byte after the remainder and at the last. -/
theorem spongeCombinedByte : Obligations.SpongeCombinedByte := by
  intro a s t h hl ht sha3
  rw [exec_sppad_ready a h hl] at ht
  obtain rfl : complete (sppadOp a s) = t := Host.Outcome.next.inj ht
  have hle := le_rate a
  have hlen := length_tail (rate a) s
  have hdom : domainByte a = if sha3 then 0x06 else 0x01 := (domainByte_eq a).trans (by simp [sha3])
  refine ⟨fun hr => ?_, fun hr => ⟨?_, ?_⟩⟩
  · rw [byteAt_sppadOp_fb0, spongeFinalBlock_combined hr, getD_append_cons _ _ _ (by rw [hlen]; exact hr.symm), hdom]
    cases sha3 <;> rfl
  · rw [byteAt_sppadOp_fb0, spongeFinalBlock_separate hr, List.append_assoc, List.append_assoc, ← hdom]
    exact getD_append_cons _ _ _ hlen.symm
  · rw [byteAt_sppadOp_fb0, spongeFinalBlock_separate hr]
    refine getD_append_cons _ _ _ ?_
    have hrem : remainder (rate a) s ≤ rate a - 2 := hr
    simp only [List.length_append, List.length_singleton, length_zeros]
    omega

/-! ### DIGEST against its unit-level program (R126, R165) -/

theorem exec_digestSponge_ready (a : SpongeAlg) (h : s.ready) (hl : s.lenOk) :
    exec (.digestSponge a) s =
      .next (complete (zeroPad { putDigest (spongeDigest a s) (spongeOutLen a) s with kec := keccakZero })) :=
  (exec_digestSponge a s).trans (command_accept h (lenCheck_none hl))

/-- The lanes `A` with the first `n` full blocks of the message absorbed in ascending order (R126). -/
def absorbFullBlocks (a : SpongeAlg) (s : State) (n : Nat) (A : Vector Word64 25) : Vector Word64 25 :=
  ((List.range n).map (fullBlock (rate a) s)).foldl (absorb (rate a)) A

theorem absorbFullBlocks_succ (a : SpongeAlg) (s : State) (n : Nat) (A : Vector Word64 25) :
    absorbFullBlocks a s (n + 1) A = absorb (rate a) (absorbFullBlocks a s n A) (fullBlock (rate a) s n) := by
  simp only [absorbFullBlocks, List.foldl_map]
  exact fold_range_succ _ _ _

/-- The digest absorbs the full blocks, then the final block, into zero lanes (R126). -/
theorem spongeDigest_eq (a : SpongeAlg) (s : State) :
    spongeDigest a s =
      squeeze (absorb (rate a) (absorbFullBlocks a s (fullBlocks (rate a) s) keccakZero) (spongeFinalBlock a s))
        (spongeOutLen a) := by
  simp [spongeDigest, spongeBlocks, absorbFullBlocks]

/-- The bytes of FB0 that ABSORB reads after SPPAD (R129). -/
theorem spaceBytes_sppadOp_fb0 (a : SpongeAlg) (s : State) :
    spaceBytes (complete (sppadOp a s)) .fb0 (rate a) = spongeFinalBlock a s :=
  have hlen := length_spongeFinalBlock a s
  calc spaceBytes (complete (sppadOp a s)) .fb0 (rate a)
      = (List.range (rate a)).map fun k => (spongeFinalBlock a s).getD k 0 :=
        List.map_congr_left fun k _ => byteAt_sppadOp_fb0 a s k
    _ = (spongeFinalBlock a s).take (rate a) := (take_eq_map_range _ hlen.ge).symm
    _ = spongeFinalBlock a s := List.take_of_length_le hlen.le

/-- The statements of the host program that absorb the first `n` full blocks: `BLKIDX` written, then ABSORB from MSG
(R165). -/
def absorbMsgInputs (a : SpongeAlg) (n : Nat) : List HostOp :=
  (List.range n).flatMap fun i => [.wr 0x03 (BitVec.ofNat 64 i), .issue (encode (.absorb a .msg))]

theorem absorbMsgInputs_succ (a : SpongeAlg) (n : Nat) :
    absorbMsgInputs a (n + 1) =
      absorbMsgInputs a n ++ [.wr 0x03 (BitVec.ofNat 64 n), .issue (encode (.absorb a .msg))] := by
  simp [absorbMsgInputs, List.range_succ]

theorem runInputs_append_of_next {xs ys : List HostOp} {s t : State} (h : runInputs xs s = .next t) :
    runInputs (xs ++ ys) s = runInputs ys t := by
  rw [runInputs_append, h]

/-- With no other input to come, a statement that issues a command's word runs the command (R22, R56). -/
theorem runInputs_issue_of_no_input {i : Instr} {xs : List HostOp} {t : State} (hh : s.host = [])
    (h : exec i s = .next t) : runInputs (.issue (encode i) :: xs) s = runInputs xs t :=
  runInputs_issue (by rwa [← hh])

/-- One full block of the message: `BLKIDX` written, then ABSORB from MSG (R56, R128). -/
theorem runInputs_absorb_block (a : SpongeAlg) {i : Nat} (hh : s.host = []) (h : s.ready) (hl : s.lenOk)
    (hi : (i + 1) * rate a ≤ s.len.toNat) :
    runInputs [.wr 0x03 (BitVec.ofNat 64 i), .issue (encode (.absorb a .msg))] s =
      .next (complete { s with
        blkidx := BitVec.ofNat 64 i, kec := absorb (rate a) s.kec (fullBlock (rate a) s i) }) := by
  have hidx : (BitVec.ofNat 64 i).toNat = i := by
    have hle : i + 1 ≤ (i + 1) * rate a := Nat.le_mul_of_pos_right _ (rate_pos a)
    have hlen := s.len.isLt
    rw [BitVec.toNat_ofNat]
    exact Nat.mod_eq_of_lt (by omega)
  have hwr : hostStep (.wr 0x03 (BitVec.ofNat 64 i)) { s with host := [] } =
      .next { s with blkidx := BitVec.ofNat 64 i } := by
    rw [← hh]
    exact hostStep_wr_reg (r := .blkidx) h.1 rfl (by decide) (BitVec.isLt _)
  have habs := exec_absorb_msg (s := { s with blkidx := BitVec.ofNat 64 i }) a h hl (by rwa [hidx])
  simp only [hidx] at habs
  exact (runInputs_cons hwr).trans (runInputs_issue_of_no_input hh habs)

/-- The loop over the full blocks leaves the lanes with these absorbed, and touches nothing else but `BLKIDX`
(R165). -/
theorem runInputs_absorbMsgInputs (a : SpongeAlg) (n : Nat) (hh : s.host = []) (h : s.ready) (hl : s.lenOk)
    (hn : n * rate a ≤ s.len.toNat) :
    ∃ b, runInputs (absorbMsgInputs a n) (complete s) =
      .next (complete { s with blkidx := b, kec := absorbFullBlocks a s n s.kec }) := by
  induction n with
  | zero => exact ⟨s.blkidx, rfl⟩
  | succ n ih =>
    obtain ⟨b, hb⟩ := ih (le_trans (Nat.mul_le_mul_right _ n.le_succ) hn)
    refine ⟨BitVec.ofNat 64 n, ?_⟩
    rw [absorbMsgInputs_succ, runInputs_append_of_next hb, absorbFullBlocks_succ]
    exact runInputs_absorb_block (s := complete { s with blkidx := b, kec := _ }) a hh h hl hn

/-- The state after INIT and SPPAD, its flag `DONE` aside (R165). -/
def afterSppad (a : SpongeAlg) (s : State) : State := sppadOp a { s with host := [], kec := keccakZero }

/-- INIT and SPPAD one after the other (R165). -/
theorem runInputs_init_sppad (a : SpongeAlg) (h : s.ready) (hl : s.lenOk) :
    runInputs [.issue (encode (.initSponge a)), .issue (encode (.sppad a))] s =
      .next (complete (afterSppad a s)) :=
  (runInputs_issue (exec_initSponge_ready (s := { s with host := [] }) a h)).trans
    (runInputs_issue_of_no_input rfl
      (exec_sppad_ready (s := complete { s with host := [], kec := keccakZero }) a h hl))

/-- ABSORB from FB0 and SQUEEZE one after the other: the lanes absorbed into are those read (R121, R125). -/
theorem runInputs_absorb_squeeze (a : SpongeAlg) (hh : s.host = []) (h : s.ready) {A : Vector Word64 25}
    (hA : absorb (rate a) s.kec (spaceBytes s .fb0 (rate a)) = A) :
    runInputs [.issue (encode (.absorb a .fb0)), .issue (encode (.squeeze a))] s =
      .next (complete (putDigest (squeeze A (spongeOutLen a)) (spongeOutLen a) { s with kec := A })) := by
  have habs := exec_absorb_buffer (src := .fb0) (sp := .fb0) (by decide) a h
  rw [hA] at habs
  exact (runInputs_issue_of_no_input hh habs).trans
    (runInputs_issue_of_no_input hh (exec_squeeze_ready (s := complete { s with kec := A }) a h))

/-- From the state after INIT and SPPAD, the full blocks, FB0 and SQUEEZE deliver the digest (R126, R165). -/
theorem runInputs_absorb_all (a : SpongeAlg) (h : s.ready) (hl : s.lenOk) :
    ∃ b A, runInputs (absorbMsgInputs a (fullBlocks (rate a) s) ++
        [.issue (encode (.absorb a .fb0)), .issue (encode (.squeeze a))]) (complete (afterSppad a s)) =
      .next (complete (putDigest (spongeDigest a s) (spongeOutLen a)
        { afterSppad a s with blkidx := b, kec := A })) := by
  obtain ⟨b, hloop⟩ := runInputs_absorbMsgInputs (s := afterSppad a s) a (fullBlocks (rate a) s) rfl h hl
    (Nat.div_mul_le_self _ _)
  have hfull : absorbFullBlocks a (afterSppad a s) (fullBlocks (rate a) s) (afterSppad a s).kec =
    absorbFullBlocks a s (fullBlocks (rate a) s) keccakZero := rfl
  rw [hfull] at hloop
  rw [spongeDigest_eq]
  generalize absorbFullBlocks a s (fullBlocks (rate a) s) keccakZero = F at hloop ⊢
  generalize hA : absorb (rate a) F (spongeFinalBlock a s) = A
  have hend := runInputs_absorb_squeeze (s := complete { afterSppad a s with blkidx := b, kec := F }) a rfl h
    ((congrArg (absorb (rate a) F) (spaceBytes_sppadOp_fb0 a s)).trans hA)
  exact ⟨b, A, (runInputs_append_of_next hloop).trans hend⟩

/-- Settles O41: the program's blocks, by induction on the number of full ones, and its final block are those
`Sponge(a)` absorbs; SPPAD and SQUEEZE leave what DIGEST zeroes and what it delivers. -/
theorem spongeDigestEqualsUnits : Obligations.SpongeDigestEqualsUnits := by
  intro a s h hl
  have hnfull : (complete (afterSppad a s)).nfull.toNat = fullBlocks (rate a) s := toNat_fullBlocks (rate a) s
  obtain ⟨b, A, hrun⟩ := runInputs_absorb_all a h hl
  rw [← hnfull] at hrun
  exact ⟨_, exec_digestSponge_ready a h hl, rfl, _, runInputs_init_sppad a h hl, _, hrun, rfl, rfl, rfl, rfl⟩

end Sys2Proof.Machine

/-! ## DIGEST of the Merkle–Damgård variants: its program and its completion (R163, R164) -/

namespace Sys2Proof.Machine

variable {s : State}

/-! ### The Merkle–Damgård engine files, apart from the rest of the state -/

/-- The state `s` with the engine files of U1 to U4 as they stand in `E`: what COMPRESS changes, apart from what it
leaves alone (R17, R31). -/
def withMdFiles (E s : State) : State := { s with md5 := E.md5, sha1 := E.sha1, s32 := E.s32, s64 := E.s64 }

theorem initFile_withMdFiles (a : MdAlg) (E s : State) :
    initFile a (withMdFiles E s) = withMdFiles (initFile a E) s := by
  cases a <;> rfl

theorem compressFile_withMdFiles (a : MdAlg) (B : List Byte) (E s : State) :
    compressFile a B (withMdFiles E s) = withMdFiles (compressFile a B E) s := by
  cases a <;> rfl

theorem complete_compressFile (a : MdAlg) (B : List Byte) (s : State) :
    complete (compressFile a B (complete s)) = complete (compressFile a B s) := by
  cases a <;> rfl

theorem zeroFile_withMdFiles (a : MdAlg) (E s : State) :
    zeroFile a (withMdFiles E s) = withMdFiles (zeroFile a E) s := by
  cases a <;> rfl

theorem serialization_withMdFiles (a : MdAlg) (E s : State) :
    serialization a (withMdFiles E s) = serialization a E := by
  cases a <;> rfl

theorem zeroFile_initFile (a : MdAlg) (s : State) : zeroFile a (initFile a s) = zeroFile a s := by cases a <;> rfl

theorem zeroFile_compressFile (a : MdAlg) (B : List Byte) (s : State) :
    zeroFile a (compressFile a B s) = zeroFile a s := by
  cases a <;> rfl

/-! ### Blocks compressed one after another -/

/-- The engine file of `E` with the blocks compressed into it in their order (R45, R163). -/
def compressBlocks (a : MdAlg) (Bs : List (List Byte)) (E : State) : State :=
  Bs.foldl (fun t B => compressFile a B t) E

/-- One more block in an ascending row of blocks. -/
theorem compressBlocks_range_succ (a : MdAlg) (block : Nat → List Byte) (n : Nat) (E : State) :
    compressBlocks a ((List.range (n + 1)).map block) E =
      compressFile a (block n) (compressBlocks a ((List.range n).map block) E) := by
  simp only [compressBlocks, List.foldl_map]
  exact fold_range_succ _ _ _

theorem compressBlocks_append (a : MdAlg) (Bs Cs : List (List Byte)) (E : State) :
    compressBlocks a (Bs ++ Cs) E = compressBlocks a Cs (compressBlocks a Bs E) :=
  List.foldl_append

theorem zeroFile_compressBlocks (a : MdAlg) (Bs : List (List Byte)) (E : State) :
    zeroFile a (compressBlocks a Bs E) = zeroFile a E := by
  induction Bs generalizing E with
  | nil => rfl
  | cons B Bs ih => exact (ih _).trans (zeroFile_compressFile a B E)

/-- The registers `get` reads, after the padded blocks, when one COMPRESS makes of them what `f` says (R45, R163). -/
theorem foldl_paddedBlocks {α : Type} (a : MdAlg) (s : State) (get : State → α) {f : α → List Byte → α}
    (h : ∀ t B, f (get t) B = get (compressFile a B t)) :
    (paddedBlocks a s).foldl f (get (initFile a s)) = get (compressBlocks a (paddedBlocks a s) (initFile a s)) :=
  List.foldl_hom get h

/-- The digest is the serialization of the engine file, its IV with the padded blocks compressed into it (R163). -/
theorem mdDigest_eq (a : MdAlg) (s : State) :
    mdDigest a s = serialization a (compressBlocks a (paddedBlocks a s) (initFile a s)) := by
  cases a with
  | md5 => exact congrArg (fun H => (md5Bytes H).take 16) (foldl_paddedBlocks .md5 s State.md5 fun _ _ => rfl)
  | sha1 => exact congrArg (fun H => (sha1Bytes H).take 20) (foldl_paddedBlocks .sha1 s State.sha1 fun _ _ => rfl)
  | sha224 => exact congrArg (fun H => (s32Bytes H).take 28) (foldl_paddedBlocks .sha224 s State.s32 fun _ _ => rfl)
  | sha256 => exact congrArg (fun H => (s32Bytes H).take 32) (foldl_paddedBlocks .sha256 s State.s32 fun _ _ => rfl)
  | sha384 => exact congrArg (fun H => (s64Bytes H).take 48) (foldl_paddedBlocks .sha384 s State.s64 fun _ _ => rfl)
  | sha512 => exact congrArg (fun H => (s64Bytes H).take 64) (foldl_paddedBlocks .sha512 s State.s64 fun _ _ => rfl)

theorem length_mdDigest (a : MdAlg) (s : State) : (mdDigest a s).length = mdOutLen a := by
  rw [mdDigest_eq, length_serialization]

theorem exec_digestMd_ready (a : MdAlg) (h : s.ready) (hl : s.lenOk) :
    exec (.digestMd a) s =
      .next (complete (zeroPad (zeroFile a (putDigest (mdDigest a s) (mdOutLen a) s)))) :=
  (exec_digestMd a s).trans (command_accept h (lenCheck_none hl))

/-! ### DIGEST against its unit-level program (R164) -/

/-- The statements of the host program that compress the first `n` full blocks: `BLKIDX` written, then COMPRESS from
MSG (R164). -/
def compressMsgInputs (a : MdAlg) (n : Nat) : List HostOp :=
  (List.range n).flatMap fun i => [.wr 0x03 (BitVec.ofNat 64 i), .issue (encode (.compress a .msg))]

theorem compressMsgInputs_succ (a : MdAlg) (n : Nat) :
    compressMsgInputs a (n + 1) =
      compressMsgInputs a n ++ [.wr 0x03 (BitVec.ofNat 64 n), .issue (encode (.compress a .msg))] := by
  simp [compressMsgInputs, List.range_succ]

/-- `BLKIDX` holds the number of every full block (R25). -/
theorem toNat_blockNumber {n i : Nat} (hn : 0 < n) (hi : (i + 1) * n ≤ s.len.toNat) :
    (BitVec.ofNat 64 i).toNat = i := by
  have hle : i + 1 ≤ (i + 1) * n := Nat.le_mul_of_pos_right _ hn
  have hlen := s.len.isLt
  rw [BitVec.toNat_ofNat]
  exact Nat.mod_eq_of_lt (by omega)

/-- One full block of the message: `BLKIDX` written, then COMPRESS from MSG (R56, R76). -/
theorem runInputs_compress_block (a : MdAlg) (E : State) {i : Nat} (hh : s.host = []) (h : s.ready) (hl : s.lenOk)
    (hi : (i + 1) * blockSize a ≤ s.len.toNat) :
    runInputs [.wr 0x03 (BitVec.ofNat 64 i), .issue (encode (.compress a .msg))] (complete (withMdFiles E s)) =
      .next (complete (withMdFiles (compressFile a (fullBlock (blockSize a) s i) E)
        { s with blkidx := BitVec.ofNat 64 i })) := by
  have hidx := toNat_blockNumber (blockSize_pos a) hi
  let u := complete (withMdFiles E { s with blkidx := BitVec.ofNat 64 i })
  have hwr : hostStep (.wr 0x03 (BitVec.ofNat 64 i)) { complete (withMdFiles E s) with host := [] } = .next u := by
    rw [← hh]
    exact hostStep_wr_reg (s := complete (withMdFiles E s)) (r := .blkidx) h.1 rfl (by decide) (BitVec.isLt _)
  have hcmp := exec_compress_msg (s := u) a h hl
    (show ((BitVec.ofNat 64 i).toNat + 1) * blockSize a ≤ s.len.toNat by rwa [hidx])
  have hblock : msgRead u (u.blkidx.toNat * blockSize a) (blockSize a) = fullBlock (blockSize a) s i := by
    rw [show u.blkidx.toNat = i from hidx]
    rfl
  rw [hblock, complete_compressFile, compressFile_withMdFiles] at hcmp
  exact (runInputs_cons hwr).trans (runInputs_issue_of_no_input hh hcmp)

/-- The loop over the full blocks leaves the engine file with these compressed into it, and touches nothing else but
`BLKIDX` (R164). -/
theorem runInputs_compressMsgInputs (a : MdAlg) (E : State) (n : Nat) (hh : s.host = []) (h : s.ready)
    (hl : s.lenOk) (hn : n * blockSize a ≤ s.len.toNat) :
    ∃ b, runInputs (compressMsgInputs a n) (complete (withMdFiles E s)) =
      .next (complete (withMdFiles (compressBlocks a ((List.range n).map (fullBlock (blockSize a) s)) E)
        { s with blkidx := b })) := by
  induction n with
  | zero => exact ⟨s.blkidx, rfl⟩
  | succ n ih =>
    obtain ⟨b, hb⟩ := ih (le_trans (Nat.mul_le_mul_right _ n.le_succ) hn)
    refine ⟨BitVec.ofNat 64 n, ?_⟩
    rw [compressMsgInputs_succ, runInputs_append_of_next hb, compressBlocks_range_succ]
    exact runInputs_compress_block (s := { s with blkidx := b }) a _ hh h hl hn

/-- COMPRESS from a buffer, as a statement of the host program (R56, R76). -/
theorem runInputs_compress_buffer {src : Src} {sp : Space}
    (hsrc : (src, sp) ∈ [(Src.blk, Space.blk), (.fb0, .fb0), (.fb1, .fb1)]) (a : MdAlg) (E : State)
    (hh : s.host = []) (h : s.ready) {B : List Byte} (hB : spaceBytes s sp (blockSize a) = B) (xs : List HostOp) :
    runInputs (.issue (encode (.compress a src)) :: xs) (complete (withMdFiles E s)) =
      runInputs xs (complete (withMdFiles (compressFile a B E) s)) := by
  have hcmp := exec_compress_buffer (s := complete (withMdFiles E s)) hsrc a h
  have hblock : spaceBytes (complete (withMdFiles E s)) sp (blockSize a) = B := by
    rw [← hB]
    cases sp <;> rfl
  rw [hblock, complete_compressFile, compressFile_withMdFiles] at hcmp
  exact runInputs_issue_of_no_input hh hcmp

/-- The final blocks and SERIALIZE: FB0, FB1 if `NEED2`, and the engine file with both compressed into it delivered
(R59, R164). -/
theorem runInputs_finalBlocks_serialize (a : MdAlg) (E : State) (hh : s.host = []) (h : s.ready)
    {B0 B1 : List Byte} (h0 : spaceBytes s .fb0 (blockSize a) = B0) (h1 : spaceBytes s .fb1 (blockSize a) = B1)
    {F : State} (hF : compressBlocks a (B0 :: if s.need2 then [B1] else []) E = F) :
    runInputs ([.issue (encode (.compress a .fb0))] ++
        (if s.need2 then [.issue (encode (.compress a .fb1))] else []) ++ [.issue (encode (.serialize a))])
        (complete (withMdFiles E s)) =
      .next (complete (putDigest (serialization a F) (mdOutLen a) (withMdFiles F s))) := by
  have hserialize : ∀ F, runInputs [.issue (encode (.serialize a))] (complete (withMdFiles F s)) =
      .next (complete (putDigest (serialization a F) (mdOutLen a) (withMdFiles F s))) := fun F => by
    have hser := exec_serialize_ready (s := complete (withMdFiles F s)) a h
    rw [show serialization a (complete (withMdFiles F s)) = serialization a F from
      serialization_withMdFiles a F (complete s)] at hser
    exact runInputs_issue_of_no_input hh hser
  subst hF
  cases hn : s.need2 with
  | false =>
    exact (runInputs_compress_buffer (src := .fb0) (by decide) a E hh h h0 _).trans (hserialize _)
  | true =>
    exact (runInputs_compress_buffer (src := .fb0) (by decide) a E hh h h0 _).trans
      ((runInputs_compress_buffer (src := .fb1) (by decide) a _ hh h h1 _).trans (hserialize _))

/-- The state after INIT and PAD, its flag `DONE` aside (R164). -/
def afterPad (a : MdAlg) (s : State) : State := withMdFiles (initFile a s) (padOp a { s with host := [] })

/-- INIT and PAD one after the other (R164). -/
theorem runInputs_init_pad (a : MdAlg) (h : s.ready) (hl : s.lenOk) :
    runInputs [.issue (encode (.initMd a)), .issue (encode (.pad a))] s = .next (complete (afterPad a s)) := by
  have hinit := exec_initMd_ready (s := withMdFiles s { s with host := [] }) a h
  rw [initFile_withMdFiles] at hinit
  exact (runInputs_issue hinit).trans (runInputs_issue_of_no_input rfl
    (exec_pad_ready (s := complete (withMdFiles (initFile a s) { s with host := [] })) a h hl))

/-- From the state after INIT and PAD, the full blocks, the final blocks and SERIALIZE deliver the digest, and leave an
engine file that differs from what INIT found in the registers of the variant only (R163, R164). -/
theorem runInputs_compress_all (a : MdAlg) (h : s.ready) (hl : s.lenOk) :
    ∃ b F, zeroFile a F = zeroFile a s ∧
      runInputs (compressMsgInputs a (fullBlocks (blockSize a) s) ++ [.issue (encode (.compress a .fb0))] ++
          (if needsSecond a s then [.issue (encode (.compress a .fb1))] else []) ++
          [.issue (encode (.serialize a))]) (complete (afterPad a s)) =
        .next (complete (putDigest (mdDigest a s) (mdOutLen a)
          (withMdFiles F { padOp a { s with host := [] } with blkidx := b }))) := by
  obtain ⟨b, hloop⟩ := runInputs_compressMsgInputs (s := padOp a { s with host := [] }) a (initFile a s)
    (fullBlocks (blockSize a) s) rfl h hl (Nat.div_mul_le_self _ _)
  refine ⟨b, compressBlocks a (paddedBlocks a s) (initFile a s), ?_, ?_⟩
  · rw [zeroFile_compressBlocks, zeroFile_initFile]
  · rw [List.append_assoc, List.append_assoc, ← List.append_assoc [_]]
    refine (runInputs_append_of_next hloop).trans ?_
    rw [mdDigest_eq]
    exact runInputs_finalBlocks_serialize (s := { padOp a { s with host := [] } with blkidx := b }) a _ rfl h
      (spaceBytes_padOp_fb0 a s) (spaceBytes_padOp_fb1 a s) (compressBlocks_append a _ _ _).symm

/-- Settles O40: the program's blocks, by induction on the number of full ones, are the padded blocks of the digest;
PAD and SERIALIZE leave what DIGEST zeroes and what it delivers. -/
theorem digestEqualsUnits : Obligations.DigestEqualsUnits := by
  intro a s h hl
  have hnfull : (complete (afterPad a s)).nfull.toNat = fullBlocks (blockSize a) s :=
    toNat_fullBlocks (blockSize a) s
  obtain ⟨b, F, hF, hrun⟩ := runInputs_compress_all a h hl
  rw [← hnfull] at hrun
  let deliver := putDigest (mdDigest a s) (mdOutLen a)
  have hdigest : zeroFile a (deliver s) = withMdFiles (zeroFile a s) (deliver s) :=
    zeroFile_withMdFiles a s (deliver s)
  have hunits : ∀ p, zeroFile a (complete (deliver (withMdFiles F p))) =
      withMdFiles (zeroFile a s) (complete (deliver p)) := fun p =>
    hF ▸ zeroFile_withMdFiles a F (complete (deliver p))
  refine ⟨_, exec_digestMd_ready a h hl, rfl, _, runInputs_init_pad a h hl, _, hrun, rfl, ?_, ?_, ?_⟩
  · rw [hdigest]
    rfl
  · rw [hdigest]
    rfl
  · rw [hdigest, hunits]
    rfl

end Sys2Proof.Machine

/-! ## What a DIGEST leaves, and what it reads (R163, R165, R166) -/

namespace Sys2Proof.Machine

variable {s s' : State}

/-! ### Completion and zeroization -/

/-- Settles O38: the check passes, the digest is `OUTLEN` bytes of the engine file, and each variant zeroes its own
file. -/
theorem digestMdCompletes : Obligations.DigestMdCompletes := by
  intro a s h hl
  have hlen := length_mdDigest a s
  refine ⟨mdDigest a s, hlen, fillSpace 64 (mdDigest a s), ?_, ?_⟩
  · rw [toList_fillSpace _ _ (hlen.trans_le (mdOutLen_le a)), hlen]
  · rw [exec_digestMd_ready a h hl]
    cases a <;> rfl

theorem length_squeeze {A : Vector Word64 25} {n : Nat} (hn : n ≤ 200) : (squeeze A n).length = n := by
  simp [squeeze, kecBytes, List.length_flatMap, hn]

theorem length_spongeDigest (a : SpongeAlg) (s : State) : (spongeDigest a s).length = spongeOutLen a :=
  length_squeeze ((spongeOutLen_le a).trans (by decide))

/-- Settles O39: the check passes, the digest is `OUTLEN` bytes of the lanes, and these are zeroed. -/
theorem digestSpongeCompletes : Obligations.DigestSpongeCompletes := by
  intro a s h hl
  have hlen := length_spongeDigest a s
  refine ⟨spongeDigest a s, hlen, fillSpace 64 (spongeDigest a s), ?_, exec_digestSponge_ready a h hl⟩
  rw [toList_fillSpace _ _ (hlen.trans_le (spongeOutLen_le a)), hlen]

/-! ### The digest as a function of the message (R166) -/

/-- Two states hold the same message: the same `LEN`, and the same bytes of MSG below it. -/
structure SameMessage (s s' : State) : Prop where
  len : s'.len = s.len
  bytes : ∀ k < s.len.toNat, msgByte s' k = msgByte s k

theorem SameMessage.fullBlocks_eq (h : SameMessage s s') (n : Nat) : fullBlocks n s' = fullBlocks n s := by
  rw [fullBlocks, h.len, fullBlocks]

theorem SameMessage.remainder_eq (h : SameMessage s s') (n : Nat) : remainder n s' = remainder n s := by
  rw [remainder, h.len, remainder]

/-- A read inside the message. -/
theorem SameMessage.msgRead_eq (h : SameMessage s s') {a n : Nat} (hle : a + n ≤ s.len.toNat) :
    msgRead s' a n = msgRead s a n :=
  msgRead_congr fun k hk => h.bytes (a + k) (by omega)

theorem SameMessage.tail_eq (h : SameMessage s s') (n : Nat) : tail n s' = tail n s := by
  rw [tail, h.fullBlocks_eq, h.remainder_eq, h.msgRead_eq (fullBlocks_mul_add_remainder n s).le, tail]

/-- The full blocks lie inside the message (R57). -/
theorem SameMessage.map_fullBlock_eq (h : SameMessage s s') (n : Nat) :
    (List.range (fullBlocks n s')).map (fullBlock n s') =
      (List.range (fullBlocks n s)).map (fullBlock n s) := by
  rw [h.fullBlocks_eq]
  refine List.map_congr_left fun i hi => h.msgRead_eq ?_
  have hle : (i + 1) * n ≤ fullBlocks n s * n := Nat.mul_le_mul_right n (List.mem_range.1 hi)
  have hlen := fullBlocks_mul_add_remainder n s
  rw [Nat.succ_mul] at hle
  omega

theorem SameMessage.needsSecond_eq (h : SameMessage s s') (a : MdAlg) : needsSecond a s' = needsSecond a s := by
  rw [needsSecond, h.remainder_eq, needsSecond]

theorem SameMessage.paddedBlocks_eq (h : SameMessage s s') (a : MdAlg) : paddedBlocks a s' = paddedBlocks a s := by
  have h0 : finalBlock0 a s' = finalBlock0 a s := by
    simp only [finalBlock0, h.needsSecond_eq, h.remainder_eq, h.tail_eq, h.len]
  have h1 : finalBlock1 a s' = finalBlock1 a s := by
    simp only [finalBlock1, h.needsSecond_eq, h.len]
  simp only [paddedBlocks, h.map_fullBlock_eq, h.needsSecond_eq, h0, h1]

theorem SameMessage.spongeBlocks_eq (h : SameMessage s s') (a : SpongeAlg) : spongeBlocks a s' = spongeBlocks a s := by
  have hfinal : spongeFinalBlock a s' = spongeFinalBlock a s := by
    simp only [spongeFinalBlock, h.remainder_eq, h.tail_eq]
  simp only [spongeBlocks, h.map_fullBlock_eq, hfinal]

theorem SameMessage.mdDigest_eq (h : SameMessage s s') (a : MdAlg) : mdDigest a s' = mdDigest a s := by
  simp only [mdDigest, h.paddedBlocks_eq]

theorem SameMessage.spongeDigest_eq (h : SameMessage s s') (a : SpongeAlg) : spongeDigest a s' = spongeDigest a s := by
  simp only [spongeDigest, h.spongeBlocks_eq]

/-- Settles O42: of the state a digest reads only its padded blocks, and these are made of `LEN` and the bytes of MSG
below it. -/
theorem digestDependsOnMessageOnly : Obligations.DigestDependsOnMessageOnly := by
  intro s s' h h' hl hl' hlen hbytes
  have hmsg : SameMessage s s' := ⟨hlen, hbytes⟩
  refine ⟨fun a => ⟨_, _, exec_digestMd_ready a h hl, exec_digestMd_ready a h' hl', ?_, by simp⟩,
    fun a => ⟨_, _, exec_digestSponge_ready a h hl, exec_digestSponge_ready a h' hl', ?_, rfl⟩⟩
  · simp [hmsg.mdDigest_eq]
  · simp [hmsg.spongeDigest_eq]

end Sys2Proof.Machine

/-! ## The accept check, from the fields of the word (R186 to R191) -/

namespace Sys2Proof

/-- The fields of a composed word are those it was composed of (R49). -/
theorem Fields.ofWord_commandWord (opc alg : BitVec 4) (bsel : BitVec 2) :
    Fields.ofWord (commandWord opc alg bsel) = ⟨opc, alg, bsel, 0⟩ := by
  rw [Fields.ofWord, Fields.mk.injEq]
  refine ⟨?_, ?_, ?_, ?_⟩
  all_goals
    ext i hi
    simp only [commandWord, BitVec.getElem_extractLsb', BitVec.getLsbD_or, BitVec.getLsbD_shiftLeft,
      BitVec.getLsbD_setWidth]
    grind

end Sys2Proof

namespace Sys2Proof.Machine

variable {check : State → Option RejectCode} {op : State → State} {s t : State}

/-! ### The check of each command, read off its word -/

/-- Steps 4 and 5 of R188 on the fields of a legal word other than CLEAR's: the cause of rejection, if any. -/
def fieldCheck (f : Fields) (s : State) : Option RejectCode :=
  if f.readsMsg ∧ s.msgCap.val < s.len.toNat then some .len
  else if f.bsel = 1 ∧ s.len.toNat < (s.blkidx.toNat + 1) * f.blockBytes then some .range
  else none

/-- Fields that do not name MSG: nothing is checked. -/
theorem fieldCheck_eq_noCheck {f : Fields} (hm : f.readsMsg = false) (hb : f.bsel ≠ 1) : fieldCheck f = noCheck := by
  funext s
  simp only [fieldCheck, noCheck, hm, hb, Bool.false_eq_true, false_and, if_false]

/-- Fields of DIGEST, PAD and SPPAD: `LEN` is checked (R186). -/
theorem fieldCheck_eq_lenCheck {f : Fields} (hm : f.readsMsg = true) (hb : f.bsel ≠ 1) : fieldCheck f = lenCheck := by
  funext s
  simp only [fieldCheck, lenCheck, hm, hb, true_and, false_and, if_false]

/-- Fields of COMPRESS and ABSORB from MSG: `LEN` is checked, then `BLKIDX` (R186, R187). -/
theorem fieldCheck_eq_blockCheck_msg {f : Fields} (hm : f.readsMsg = true) (hb : f.bsel = 1) :
    fieldCheck f = blockCheck .msg f.blockBytes := by
  funext s
  simp only [fieldCheck, blockCheck, hm, hb, true_and]

/-- `bs` of a Merkle–Damgård variant by its `ALG` code (R51). -/
theorem blockBytes_mdCode (opc : BitVec 4) (a : MdAlg) (bsel : BitVec 2) (zero : BitVec 22) :
    Fields.blockBytes ⟨opc, mdCode a, bsel, zero⟩ = blockSize a := by
  cases a <;> rfl

/-- `RATE` of a sponge variant by its `ALG` code (R51). -/
theorem blockBytes_spongeCode (opc : BitVec 4) (a : SpongeAlg) (bsel : BitVec 2) (zero : BitVec 22) :
    Fields.blockBytes ⟨opc, spongeCode a, bsel, zero⟩ = rate a := by
  cases a <;> rfl

/-- COMPRESS and ABSORB read MSG when their block source names it (R188). -/
theorem readsMsg_block {opc : BitVec 4} (hopc : opc = 0x3 ∨ opc = 0x7) (alg : BitVec 4) (bsel : BitVec 2)
    (zero : BitVec 22) : Fields.readsMsg ⟨opc, alg, bsel, zero⟩ = decide (bsel = 1) := by
  obtain rfl | rfl := hopc
  · rfl
  · rfl

/-- The fields of COMPRESS and ABSORB: a buffer as the block source is not checked, MSG is (R186, R187). -/
theorem fieldCheck_block {opc alg : BitVec 4} (hopc : opc = 0x3 ∨ opc = 0x7) (src : Src) (zero : BitVec 22) {n : Nat}
    (hn : Fields.blockBytes ⟨opc, alg, srcCode src, zero⟩ = n) :
    fieldCheck ⟨opc, alg, srcCode src, zero⟩ = blockCheck src n := by
  have hm := readsMsg_block hopc alg (srcCode src) zero
  subst hn
  cases src with
  | msg => exact fieldCheck_eq_blockCheck_msg hm rfl
  | blk => exact fieldCheck_eq_noCheck hm (show srcCode .blk ≠ 1 by decide)
  | fb0 => exact fieldCheck_eq_noCheck hm (show srcCode .fb0 ≠ 1 by decide)
  | fb1 => exact fieldCheck_eq_noCheck hm (show srcCode .fb1 ≠ 1 by decide)

/-- A meaning whose check is that of the fields its word is composed of. -/
theorem exec_fieldCheck_of_word {i : Instr} {opc alg : BitVec 4} {bsel : BitVec 2}
    (hword : encode i = commandWord opc alg bsel) (hcheck : fieldCheck ⟨opc, alg, bsel, 0⟩ = check)
    (hop : OpFrame op) (hexec : ∀ s, exec i s = command check op s) :
    ∃ op, OpFrame op ∧ ∀ s, exec i s = command (fieldCheck (Fields.ofWord (encode i))) op s := by
  rw [hword, Fields.ofWord_commandWord, hcheck]
  exact ⟨op, hop, hexec⟩

/-- Every command other than CLEAR is the accept check read off the fields of its word, over an operation of its own
(R188). -/
theorem exec_eq_command_fieldCheck (i : Instr) (hi : i ≠ .clear) :
    ∃ op, OpFrame op ∧ ∀ s, exec i s = command (fieldCheck (Fields.ofWord (encode i))) op s := by
  have hbsel : (0 : BitVec 2) ≠ 1 := by decide
  induction i using Instr.familyCases with
  | clear => exact absurd rfl hi
  | digestMd a =>
    exact exec_fieldCheck_of_word (encode_digestMd a) (fieldCheck_eq_lenCheck rfl hbsel) (digestMd_frame a)
      (exec_digestMd a)
  | digestSponge a =>
    exact exec_fieldCheck_of_word (encode_digestSponge a) (fieldCheck_eq_lenCheck rfl hbsel) (digestSponge_frame a)
      (exec_digestSponge a)
  | initMd a =>
    exact exec_fieldCheck_of_word (encode_initMd a) (fieldCheck_eq_noCheck rfl hbsel) (initMd_frame a) (exec_initMd a)
  | initSponge a =>
    exact exec_fieldCheck_of_word (encode_initSponge a) (fieldCheck_eq_noCheck rfl hbsel) initSponge_frame
      (exec_initSponge a)
  | compress a src =>
    exact exec_fieldCheck_of_word (encode_compress a src)
      (fieldCheck_block (.inl rfl) src 0 (blockBytes_mdCode _ a _ _)) (compress_frame a src) (exec_compress a src)
  | pad a =>
    exact exec_fieldCheck_of_word (encode_pad a) (fieldCheck_eq_lenCheck rfl hbsel) (pad_frame a) (exec_pad a)
  | serialize a =>
    exact exec_fieldCheck_of_word (encode_serialize a) (fieldCheck_eq_noCheck rfl hbsel) (serialize_frame a)
      (exec_serialize a)
  | permute =>
    exact exec_fieldCheck_of_word (i := .permute) rfl (fieldCheck_eq_noCheck rfl hbsel) permute_frame exec_permute
  | absorb a src =>
    exact exec_fieldCheck_of_word (encode_absorb a src)
      (fieldCheck_block (.inr rfl) (absorbSrc src) 0 (blockBytes_spongeCode _ a _ _)) (absorb_frame a src)
      (exec_absorb a src)
  | sppad a =>
    exact exec_fieldCheck_of_word (encode_sppad a) (fieldCheck_eq_lenCheck rfl hbsel) (sppad_frame a) (exec_sppad a)
  | squeeze a =>
    exact exec_fieldCheck_of_word (encode_squeeze a) (fieldCheck_eq_noCheck rfl hbsel) (squeeze_frame a)
      (exec_squeeze a)

/-! ### The verdict of R188 on a word -/

/-- What the accept check decides on a word other than CLEAR's, given the cause of rejection its checks find (R188). -/
def checkVerdict (c : Option RejectCode) (s : State) : Verdict :=
  if s.err then .locked
  else match c with
    | some c => .reject c
    | none => .accept

theorem verdict_clear (s : State) : verdict 0x0000000A s = .accept := by
  rw [verdict, if_pos rfl]

theorem verdict_of_locked {w : Word32} (hw : w ≠ 0x0000000A) (he : s.err = true) : verdict w s = .locked := by
  rw [verdict, if_neg hw, if_pos he]

/-- On a word other than CLEAR's: the lock, then the legality of the word, then the checks of its fields (R188). -/
theorem verdict_of_ne_clear {w : Word32} (hw : w ≠ 0x0000000A) (s : State) :
    verdict w s = checkVerdict
      (if (Fields.ofWord w).legal = false then some .illegal else fieldCheck (Fields.ofWord w) s) s := by
  cases he : s.err with
  | true => simp only [verdict_of_locked hw he, checkVerdict, he, if_true]
  | false =>
    unfold verdict checkVerdict fieldCheck
    simp only [if_neg hw, he, Bool.false_eq_true, if_false]
    split_ifs <;> rfl

theorem encode_ne_clear {i : Instr} (hi : i ≠ .clear) : encode i ≠ 0x0000000A := fun h =>
  hi (Except.ok.inj ((decode_encode i).symm.trans (h ▸ decode_encode .clear)))

/-! ### The outcome the verdict stands for -/

/-- The outcome of a `CMD` write under each verdict (R188 to R190). -/
def Verdict.Outcome (v : Verdict) (s : State) (o : Host.Outcome State Fault Refusal) : Prop :=
  match v with
  | .locked => o = .next { s with done := false }
  | .reject c => o = .next { s with rejected := some c, done := false }
  | .accept => ∃ t, o = .next t ∧ t.done = true ∧ t.err = false ∧ t.busy = false

/-- The accept check of a command's meaning has the outcome its verdict stands for (R188). -/
theorem command_outcome (hop : check s = none → OpFrame op) (hb : s.busy = false) :
    (checkVerdict (check s) s).Outcome s (command check op s) := by
  unfold checkVerdict
  cases he : s.err with
  | true => exact command_locked hb he
  | false =>
    cases hc : check s with
    | some c => exact command_reject ⟨hb, he⟩ hc
    | none =>
      have hbusy : (op s).busy = s.busy := by simp only [State.busy, (hop hc).running]
      have herr : (op s).err = s.err := by simp only [State.err, (hop hc).rejected]
      exact ⟨_, command_accept ⟨hb, he⟩ hc, rfl, herr.trans he, hbusy.trans hb⟩

/-- Every word written to `CMD` has the outcome of its verdict (R188, R191). -/
theorem issue_outcome (w : Word32) (hb : s.busy = false) : (verdict w s).Outcome s (issue w s) := by
  cases hw : decode w with
  | error e =>
    have hlegal : (Fields.ofWord w).legal = false := decode_eq_error_iff_legal.1 hw
    have hne : w ≠ 0x0000000A := by
      rintro rfl
      cases hlegal
    rw [issue_of_illegal hw, verdict_of_ne_clear hne, if_pos hlegal]
    exact command_outcome (check := fun _ => some .illegal) (fun hc => nomatch hc) hb
  | ok i =>
    obtain rfl := decode_eq_ok_iff.1 hw
    rw [issue_of_decode hw]
    by_cases hi : i = .clear
    · subst hi
      rw [show encode .clear = 0x0000000A from rfl, verdict_clear]
      exact ⟨_, commandAlways_accept hb, rfl, rfl, hb⟩
    · obtain ⟨op, hop, hexec⟩ := exec_eq_command_fieldCheck i hi
      rw [hexec, verdict_of_ne_clear (encode_ne_clear hi), if_neg (by simp [legal_encode])]
      exact command_outcome (fun _ => hop) hb

/-- Settles O13: the check of every command, read off its word, is steps 4 and 5 of the accept check; the lock and the
legality of the word stand before it. -/
theorem acceptCheckOrder : Obligations.AcceptCheckOrder := by
  intro w s hb
  have h := issue_outcome w hb
  exact ⟨fun hv => by rwa [hv] at h, fun c hv => by rwa [hv] at h, fun hv => by rwa [hv] at h⟩

/-! ### Rejection and the lock -/

/-- Settles O14: a command that does not complete was refused by the lock, which keeps the cause, or rejected by a
CORE without one. -/
theorem rejectionIsPrecise : Obligations.RejectionIsPrecise := by
  intro i s t h hd
  obtain ⟨-, ⟨hnd, -⟩ | ⟨-, he⟩⟩ := exec_next_flags h
  · simp [hd] at hnd
  refine ⟨exec_next_status_only h hd, he, fun hs => ?_⟩
  obtain ⟨-, ⟨-, rfl⟩ | ⟨c, hns, -⟩ | ⟨op, -, hns, -⟩ | ⟨-, rfl⟩⟩ := exec_next h
  · rfl
  · simp [hs] at hns
  · simp [hs] at hns
  · simp at hd

end Sys2Proof.Machine

/-! ## Host accesses while BUSY = 1, at reset and under the lock (R190, R198, R200); CLEAR (R181) -/

namespace Sys2Proof.Machine

variable {s t : State}

/-! ### While a command is in progress -/

theorem hostWrite_busy {n : Nat} {v : Word64} (hb : s.busy = true) : hostWrite n v s = .refused .accessWhileBusy :=
  if_pos hb

theorem hostRead_busy {n : Nat} (hb : s.busy = true) (hn : regOfNumber n ≠ some .status) :
    hostRead n s = .refused .accessWhileBusy :=
  if_pos (by simp [hb, hn])

theorem hostWriteBytes_busy {sp : Space} {i : Nat} {bs : List Byte} (hb : s.busy = true) :
    hostWriteBytes sp i bs s = .refused .accessWhileBusy :=
  if_pos hb

theorem hostReadBytes_busy {sp : Space} {i j : Nat} (hb : s.busy = true) :
    hostReadBytes sp i j s = .refused .accessWhileBusy :=
  if_pos hb

theorem writeCmd_busy {v : Word64} (hb : s.busy = true) : writeCmd v s = .refused .accessWhileBusy := if_pos hb

theorem hostStep_wr_busy (n : Nat) (v : Word64) (hb : s.busy = true) :
    hostStep (.wr n v) s = .refused .accessWhileBusy := by
  by_cases hn : regOfNumber n = some .cmd
  · exact (if_pos hn).trans (writeCmd_busy hb)
  · exact (hostStep_wr hn v s).trans (hostWrite_busy hb)

theorem issueLong_busy (w : Word32) (hb : s.busy = true) : issueLong w s = .refused .accessWhileBusy := by
  cases hw : decode w with
  | ok i => simp only [issueLong, hw, exec_busy i s hb]
  | error e =>
    simp only [issueLong, hw]
    exact command_busy hb

theorem statusWord_busy (hb : s.busy = true) (hd : s.done = false) (he : s.err = false) : statusWord s = 1 := by
  have hrej : s.rejected = none := by simpa [State.err] using he
  simp [statusWord, State.code, flagBit, hb, hd, he, hrej]

/-- Settles O6: every access but a read of `STATUS` looks at `BUSY` first. -/
theorem busyRefusesAccess : Obligations.BusyRefusesAccess := fun s hb =>
  ⟨fun n v => hostStep_wr_busy n v hb, fun _ hn => hostRead_busy hb hn, fun _ _ _ => hostWriteBytes_busy hb,
    fun _ _ _ => hostReadBytes_busy hb, fun w => ⟨issue_busy w s hb, issueLong_busy w hb⟩,
    fun hd he => (hostRead_status s).trans (by rw [statusWord_busy hb hd he]; rfl)⟩

/-! ### Reset and CLEAR -/

/-- After a reset event every number reads what it reads in the reset state, 0 (R198). -/
theorem readNumber_resetEvent (s : State) (n : Nat) : readNumber (resetEvent s) n = 0 := by
  obtain ⟨hzero, -⟩ := resetState
  have hreset : readNumber (resetEvent s) n = readNumber State.reset n := by
    cases hn : regOfNumber n with
    | none => rw [readNumber_of_none hn, readNumber_of_none hn]
    | some r =>
      rw [readNumber_of_reg hn, readNumber_of_reg hn]
      cases r <;> rfl
  exact hreset.trans (hzero n)

/-- Settles O44: CLEAR's form has no lock and no check before it, and with no command in progress it zeroes all that
reset does. -/
theorem clearCompletes : Obligations.ClearCompletes := by
  intro s hb
  have hclear : exec .clear s = .next (complete (clearOp s)) := commandAlways_accept hb
  rw [hclear, complete, clearOp, running_eq_none hb]
  rfl

/-! ### Host accesses under the lock (R190) -/

theorem readReg_rejected (s : State) (c : Option RejectCode) {r : RegName} (hr : r ≠ .status) :
    readReg { s with rejected := c } r = readReg s r := by
  cases r with
  | status => exact absurd rfl hr
  | _ => rfl

theorem readNumber_rejected (s : State) (c : Option RejectCode) {n : Nat} (hn : regOfNumber n ≠ some .status) :
    readNumber { s with rejected := c } n = readNumber s n := by
  cases h : regOfNumber n with
  | none => rw [readNumber_of_none h, readNumber_of_none h]
  | some r =>
    rw [readNumber_of_reg h, readNumber_of_reg h]
    exact readReg_rejected s c fun hr => hn (h.trans (congrArg some hr))

theorem writeReg_rejected (s : State) (c : Option RejectCode) (r : RegName) (v : Word64) :
    writeReg { s with rejected := c } r v = { writeReg s r v with rejected := c } := by
  cases r <;> rfl

theorem byteAt_rejected (s : State) (c : Option RejectCode) (sp : Space) :
    byteAt { s with rejected := c } sp = byteAt s sp := by
  cases sp <;> rfl

theorem spaceSize_rejected (s : State) (c : Option RejectCode) (sp : Space) :
    spaceSize { s with rejected := c } sp = spaceSize s sp := by
  cases sp <;> rfl

theorem writeBytes_rejected (sp : Space) (s : State) (c : Option RejectCode) (i : Nat) (bs : List Byte) :
    writeBytes sp { s with rejected := c } i bs = { writeBytes sp s i bs with rejected := c } := by
  induction bs generalizing s i with
  | nil => rfl
  | cons b bs ih =>
    have hbyte : writeByte { s with rejected := c } sp i b = { writeByte s sp i b with rejected := c } := by
      cases sp <;> rfl
    rw [writeBytes, hbyte, ih, writeBytes]

theorem hostWrite_rejected {n : Nat} {v : Word64} (c : Option RejectCode) (h : hostWrite n v s = .next t) :
    hostWrite n v { s with rejected := c } = .next { t with rejected := c } := by
  cases hb : s.busy with
  | true => simp [hostWrite_busy hb] at h
  | false =>
    cases hn : regOfNumber n with
    | none =>
      obtain rfl : s = t := Host.Outcome.next.inj ((hostWrite_none hb hn).symm.trans h)
      exact hostWrite_none (s := { s with rejected := c }) hb hn
    | some r =>
      by_cases hv : v.toNat < 2 ^ regWidth r
      · obtain rfl : writeReg s r v = t := Host.Outcome.next.inj ((hostWrite_reg hb hn hv).symm.trans h)
        rw [hostWrite_reg (s := { s with rejected := c }) hb hn hv, writeReg_rejected]
      · simp [hostWrite_wide hb hn (Nat.le_of_not_lt hv)] at h

theorem hostRead_rejected {n : Nat} (c : Option RejectCode) (hn : regOfNumber n ≠ some .status)
    (h : hostRead n s = .next t) : hostRead n { s with rejected := c } = .next { t with rejected := c } := by
  cases hb : s.busy with
  | true => simp [hostRead_busy hb hn] at h
  | false =>
    obtain rfl := Host.Outcome.next.inj ((hostRead_idle hb n).symm.trans h)
    rw [hostRead_idle (s := { s with rejected := c }) hb, readNumber_rejected s c hn]

theorem hostWriteBytes_rejected {sp : Space} {i : Nat} {bs : List Byte} (c : Option RejectCode)
    (h : hostWriteBytes sp i bs s = .next t) :
    hostWriteBytes sp i bs { s with rejected := c } = .next { t with rejected := c } := by
  cases hb : s.busy with
  | true => simp [hostWriteBytes_busy hb] at h
  | false =>
    obtain ⟨hl, rfl⟩ := hostWriteBytes_next h
    rw [← writeBytes_rejected, hostWriteBytes, spaceSize_rejected, if_pos hl]
    exact if_neg (show ¬s.busy = true by simp [hb])

theorem hostReadBytes_rejected {sp : Space} {i j : Nat} (c : Option RejectCode)
    (h : hostReadBytes sp i j s = .next t) :
    hostReadBytes sp i j { s with rejected := c } = .next { t with rejected := c } := by
  unfold hostReadBytes at h ⊢
  rw [spaceSize_rejected, byteAt_rejected]
  split at h
  · cases h
  next hb =>
    rw [if_neg (show ¬State.busy { s with rejected := c } = true from hb)]
    split at h
    next hl =>
      cases h
      exact if_pos hl
    · cases h

/-- Settles O15: the lock is step 2 of the accept check, and a host access looks at `BUSY` but not at `ERR`. -/
theorem errorLock : Obligations.ErrorLock :=
  ⟨fun w s hb he hw => (acceptCheckOrder w s hb).1 (verdict_of_locked hw he),
    fun _ _ c => ⟨fun _ _ => hostWrite_rejected c, fun _ => hostRead_rejected c,
      fun _ _ _ => hostWriteBytes_rejected c, fun _ _ _ => hostReadBytes_rejected c⟩⟩

/-! ## ERR_LEN and ERR_RANGE (R186, R187) -/

/-- Settles O16: `LEN` is the first cause the check of a command that reads MSG finds, and no check stands before the
others. -/
theorem errLen : Obligations.ErrLen := by
  refine ⟨fun s h hlen => ⟨fun a i hi => ?_, fun a i hi => ?_⟩, fun s h i hi => ?_, fun s hl => ?_⟩
  · obtain rfl | rfl | rfl : i = .digestMd a ∨ i = .pad a ∨ i = .compress a .msg := by simpa using hi
    · exact (exec_digestMd a s).trans (command_reject h (lenCheck_some hlen))
    · exact (exec_pad a s).trans (command_reject h (lenCheck_some hlen))
    · exact (exec_compress a .msg s).trans (command_reject h (blockCheck_msg_len hlen))
  · obtain rfl | rfl | rfl : i = .digestSponge a ∨ i = .sppad a ∨ i = .absorb a .msg := by simpa using hi
    · exact (exec_digestSponge a s).trans (command_reject h (lenCheck_some hlen))
    · exact (exec_sppad a s).trans (command_reject h (lenCheck_some hlen))
    · exact (exec_absorb a .msg s).trans (command_reject h (blockCheck_msg_len hlen))
  · obtain ⟨a, hi⟩ | ⟨a, hi⟩ | rfl | rfl := hi
    · obtain rfl | rfl | rfl | rfl | rfl : i = .initMd a ∨ i = .serialize a ∨ i = .compress a .blk ∨
          i = .compress a .fb0 ∨ i = .compress a .fb1 := by simpa using hi
      · exact ⟨_, exec_initMd_ready a h, rfl⟩
      · exact ⟨_, exec_serialize_ready a h, rfl⟩
      · exact ⟨_, exec_compress_buffer (src := .blk) (sp := .blk) (by decide) a h, rfl⟩
      · exact ⟨_, exec_compress_buffer (src := .fb0) (sp := .fb0) (by decide) a h, rfl⟩
      · exact ⟨_, exec_compress_buffer (src := .fb1) (sp := .fb1) (by decide) a h, rfl⟩
    · obtain rfl | rfl | rfl | rfl : i = .initSponge a ∨ i = .squeeze a ∨ i = .absorb a .blk ∨
          i = .absorb a .fb0 := by simpa using hi
      · exact ⟨_, exec_initSponge_ready a h, rfl⟩
      · exact ⟨_, exec_squeeze_ready a h, rfl⟩
      · exact ⟨_, exec_absorb_buffer (src := .blk) (sp := .blk) (by decide) a h, rfl⟩
      · exact ⟨_, exec_absorb_buffer (src := .fb0) (sp := .fb0) (by decide) a h, rfl⟩
    · exact ⟨_, exec_permute_ready h, rfl⟩
    · exact ⟨_, commandAlways_accept h.1, rfl⟩
  · have hle : s.len.toNat ≤ s.msgCap.val := hl
    have hcap := s.msgCap.isLt
    omega

/-- A command with a block operand in MSG completes when `BLKIDX` names a full block, and else is rejected with
`ERR_RANGE` (R187). -/
theorem command_block_msg {op : State → State} {n : Nat} (hn : 0 < n) (h : s.ready) (hl : s.lenOk) :
    ((∃ t, command (blockCheck .msg n) op s = .next t ∧ t.done = true) ↔ s.blkidx.toNat < s.len.toNat / n) ∧
      (command (blockCheck .msg n) op s = .next (reject .range s) ↔ s.len.toNat < (s.blkidx.toNat + 1) * n) := by
  have hiff : s.blkidx.toNat < s.len.toNat / n ↔ (s.blkidx.toNat + 1) * n ≤ s.len.toNat :=
    Nat.le_div_iff_mul_le hn
  rw [hiff]
  by_cases hr : (s.blkidx.toNat + 1) * n ≤ s.len.toNat
  · have hexec := command_accept (op := op) h (blockCheck_msg_none hl hr)
    have hne : complete (op s) ≠ reject .range s := fun heq => by
      simpa using congrArg State.done heq
    simp [hexec, hr, hne, Nat.not_lt.2 hr]
  · have hexec := command_reject (op := op) h (blockCheck_msg_range hl (Nat.lt_of_not_le hr))
    simp [hexec, hr, Nat.lt_of_not_le hr]

/-- Settles O17: the check of both operations with MSG as the block source is one over the block size or the rate. -/
theorem errRange : Obligations.ErrRange := by
  refine fun s h hl => ⟨fun a => ?_, fun a => ?_⟩
  · rw [exec_compress]
    exact command_block_msg (blockSize_pos a) h hl
  · rw [exec_absorb]
    exact command_block_msg (rate_pos a) h hl

end Sys2Proof.Machine

namespace Sys2Proof

/-- Settles O8: the reset event leaves what the reset state holds, whatever the state it comes in. -/
theorem resetEvent : Obligations.ResetEvent := by
  intro s rest hhost
  obtain ⟨-, hbytes, -⟩ := Machine.resetState
  exact ⟨_, Machine.step_of_host hhost, Machine.readNumber_resetEvent _, hbytes, fun _ => rfl, rfl, rfl, rfl, rfl⟩

end Sys2Proof
